-- ==== Sys2Proof/Word.lean ====
section
/-! DEFINITION. The word types of the TSR-PRBS block (00_scope.md rules R8 to R11): every word is an unsigned
integer of a declared width with wrap-around arithmetic, so every word is a bit vector and the core operations on
bit vectors are the primitives of rule R11:

* `addN(a, b)` is `a + b`, `mulN(a, b)` is `a * b`, both modulo `2^N`;
* `a ^ b`, `a | b`, `a & b` are `a ^^^ b`, `a ||| b`, `a &&& b`;
* `shlN(a, k)` is `a <<< k` and `shrN(a, k)` is the logical shift `a >>> k`;
* `zext_M(v)` and `trunc_M(v)` are `v.setWidth M`, `sext_M(v)` is `v.signExtend M`;
* the field `v[hi:lo]` is `v.extractLsb' lo (hi - lo + 1)` and `{a, b}` is `a ++ b` (rule R9).

The rotation `rotlN` is in `Sys2Proof/Machine/Ops.lean`. -/

namespace Sys2Proof

/-- A seed byte, and the immediate of a command (R73). -/
abbrev Byte := BitVec 8

/-- A 32-bit word: a state word of a 32-bit core, a word of the snapshot buffer, a command word (R8). -/
abbrev Word32 := BitVec 32

/-- A 64-bit word: a state word of a 64-bit core, the operand `ARG`, the results `RES` and `FRES` (R8). -/
abbrev Word64 := BitVec 64

/-- The 53-bit numerator of a fraction over `2^53` (R170, R176). -/
abbrev Frac53 := BitVec 53

end Sys2Proof
end

