-- ==== Sys2Proof/Syntax.lean ====
section
/-! DEFINITION. The commands of the TSR-PRBS block: one constructor per row of spec/opcode_table.json, in the table's
order (30_encoding.md rule R76), with the operands the command word carries (rule R73). The operand `ARG` travels
beside the command word (rule R70) and is in the machine's state. -/

namespace Sys2Proof

/-- The nine algorithms with a code (00_scope.md rule R3). Code 0 is "no core" and codes 10 to 15 are reserved
(R80), so neither is an algorithm. -/
inductive Alg where
  | xs128 | xs7 | xs4096 | xorwow | xo128pp | xo128p | xoro128p | sm32 | sm64
deriving DecidableEq, Repr

/-- The 27 commands (R76). -/
inductive Instr where
  /-- `NOP` (R215) -/
  | nop
  /-- `CLR` (R216) -/
  | clr
  /-- `STAT` (R217) -/
  | stat
  /-- `RDID` (R218) -/
  | rdid
  /-- `FNV.INIT` (R94) -/
  | fnvInit
  /-- `FNV.BYTE imm8` (R95) -/
  | fnvByte (imm8 : Byte)
  /-- `FNV.INT` (R96) -/
  | fnvInt
  /-- `FNV.RD32` (R97) -/
  | fnvRd32
  /-- `FNV.RD64` (R98) -/
  | fnvRd64
  /-- `SM.LD32` (R106) -/
  | smLd32
  /-- `SM.LD64` (R107) -/
  | smLd64
  /-- `SM.LDH32` (R108) -/
  | smLdh32
  /-- `SM.LDH64` (R109) -/
  | smLdh64
  /-- `SM.NEXT32` (R110) -/
  | smNext32
  /-- `SM.NEXT64` (R111) -/
  | smNext64
  /-- `SEED alg` (R161) -/
  | seed (alg : Alg)
  /-- `ADV` (R171) -/
  | adv
  /-- `DRAW`, and its alias `QUICK` (R172, R173) -/
  | draw
  /-- `INT32` (R174) -/
  | int32
  /-- `DOUBLE` (R178, R179) -/
  | double
  /-- `CMP.TRY` (R181) -/
  | cmpTry
  /-- `SNAP` (R199) -/
  | snap
  /-- `SB.RD imm8` (R200) -/
  | sbRd (imm8 : Byte)
  /-- `SB.CLR alg` (R201) -/
  | sbClr (alg : Alg)
  /-- `SB.PUSH` (R202) -/
  | sbPush
  /-- `RESTORE alg` (R204) -/
  | restore (alg : Alg)
  /-- `SB.INFO` (R203) -/
  | sbInfo
deriving DecidableEq, Repr

end Sys2Proof
end

