-- ==== Sys2Proof/WellFormed.lean ====
section
/-! DEFINITION. Which 32-bit words are legal commands, said by the tables of 30_encoding.md rules R71, R72, R76 and
R80 (the four fields; the mask and the match word of each row; the range of `alg` in format A), apart from the
decoder. An instruction of `Syntax.lean` has no ill-formed values: its operands are an algorithm with a code and an
8-bit immediate, so the check is on words. -/

namespace Sys2Proof

/-- The three formats of rule R72. -/
inductive Format where
  /-- `op` alone -/
  | z
  /-- `op` and `alg` -/
  | a
  /-- `op` and `imm8` -/
  | i
deriving DecidableEq, Repr

/-- One row of the opcode map: an opcode and its format (R76). -/
structure OpRow where
  op     : BitVec 8
  format : Format
deriving DecidableEq, Repr

/-- The 27 rows of rule R76. -/
def opRows : List OpRow := [
  ⟨0x00, .z⟩, ⟨0x01, .z⟩, ⟨0x02, .z⟩, ⟨0x03, .z⟩,
  ⟨0x10, .z⟩, ⟨0x11, .i⟩, ⟨0x12, .z⟩, ⟨0x13, .z⟩, ⟨0x14, .z⟩,
  ⟨0x20, .z⟩, ⟨0x21, .z⟩, ⟨0x22, .z⟩, ⟨0x23, .z⟩, ⟨0x24, .z⟩, ⟨0x25, .z⟩,
  ⟨0x30, .a⟩, ⟨0x31, .z⟩, ⟨0x32, .z⟩, ⟨0x33, .z⟩, ⟨0x34, .z⟩, ⟨0x35, .z⟩,
  ⟨0x38, .z⟩, ⟨0x39, .i⟩, ⟨0x3A, .a⟩, ⟨0x3B, .z⟩, ⟨0x3C, .a⟩, ⟨0x3D, .z⟩]

/-- The `mask` column of rule R72. -/
def Format.mask : Format → Word32
  | .z => 0xFFFFFFFF
  | .a => 0xFF0FFFFF
  | .i => 0xFFFFFF00

/-- The `match` column of rule R72: `op << 24`. -/
def OpRow.matchWord (r : OpRow) : Word32 := r.op.setWidth 32 <<< 24

/-- A word selects a row when its masked bits are the row's match word (R72). -/
def OpRow.selects (r : OpRow) (c : Word32) : Bool := c &&& r.format.mask == r.matchWord

/-- The `alg` field of a format A word holds a code of rule R3: 1 to 9 (R80). Other formats have no such field. -/
def OpRow.algInRange (r : OpRow) (c : Word32) : Bool :=
  match r.format with
  | .a => 1 ≤ (c.extractLsb' 20 4).toNat && (c.extractLsb' 20 4).toNat ≤ 9
  | .z => true
  | .i => true

/-- A word is a legal command when it selects a row of rule R76 and, in format A, names an algorithm (R72, R80). -/
def legalWord (c : Word32) : Bool := opRows.any fun r => r.selects c && r.algInRange c

end Sys2Proof
end

