-- ==== Sys2Proof/Decode.lean ====
section
/-! DEFINITION. Decoding of a command word (30_encoding.md rule R77), total on all `2^32` words and rejecting by name,
and after it the encoder (rule R84). The block takes whole 32-bit command words from its port (R57), so there is no
byte order. -/

namespace Sys2Proof

/-- The code of an algorithm (R3). -/
def Alg.code : Alg → BitVec 4
  | .xs128 => 1
  | .xs7 => 2
  | .xs4096 => 3
  | .xorwow => 4
  | .xo128pp => 5
  | .xo128p => 6
  | .xoro128p => 7
  | .sm32 => 8
  | .sm64 => 9

/-- The algorithm with a code (R3); none for 0 and for the reserved codes 10 to 15 (R80). -/
def Alg.ofCode (code : BitVec 4) : Option Alg :=
  match code with
  | 1#4 => some .xs128
  | 2#4 => some .xs7
  | 3#4 => some .xs4096
  | 4#4 => some .xorwow
  | 5#4 => some .xo128pp
  | 6#4 => some .xo128p
  | 7#4 => some .xoro128p
  | 8#4 => some .sm32
  | 9#4 => some .sm64
  | _ => none

/-- Why a word is no command: the tests of rule R77, in its order. The block reports all of them as `E_ILLEGAL`. -/
inductive DecodeError where
  /-- `rsv` is not zero -/
  | reservedBits
  /-- `op` is not in the table of rule R76 -/
  | unknownOpcode
  /-- a field the format does not use is not zero -/
  | unusedField
  /-- `alg` of a format A word is 0 or 10 to 15 -/
  | reservedAlgorithm
deriving DecidableEq, Repr

/-- What decoding answers: a command, or the reason the word is none. -/
inductive Decoded where
  | command (i : Instr)
  | illegal (why : DecodeError)
deriving DecidableEq, Repr

/-- What an opcode stands for: a command with no operand in its word (format Z), with an algorithm (format A), with an
immediate (format I). -/
inductive Opcode where
  | plain (command : Instr)
  | withAlg (command : Alg → Instr)
  | withImm (command : Byte → Instr)

/-- The opcode map (R76). -/
def Opcode.ofByte (op : BitVec 8) : Option Opcode :=
  match op with
  | 0x00#8 => some (.plain .nop)
  | 0x01#8 => some (.plain .clr)
  | 0x02#8 => some (.plain .stat)
  | 0x03#8 => some (.plain .rdid)
  | 0x10#8 => some (.plain .fnvInit)
  | 0x11#8 => some (.withImm .fnvByte)
  | 0x12#8 => some (.plain .fnvInt)
  | 0x13#8 => some (.plain .fnvRd32)
  | 0x14#8 => some (.plain .fnvRd64)
  | 0x20#8 => some (.plain .smLd32)
  | 0x21#8 => some (.plain .smLd64)
  | 0x22#8 => some (.plain .smLdh32)
  | 0x23#8 => some (.plain .smLdh64)
  | 0x24#8 => some (.plain .smNext32)
  | 0x25#8 => some (.plain .smNext64)
  | 0x30#8 => some (.withAlg .seed)
  | 0x31#8 => some (.plain .adv)
  | 0x32#8 => some (.plain .draw)
  | 0x33#8 => some (.plain .int32)
  | 0x34#8 => some (.plain .double)
  | 0x35#8 => some (.plain .cmpTry)
  | 0x38#8 => some (.plain .snap)
  | 0x39#8 => some (.withImm .sbRd)
  | 0x3A#8 => some (.withAlg .sbClr)
  | 0x3B#8 => some (.plain .sbPush)
  | 0x3C#8 => some (.withAlg .restore)
  | 0x3D#8 => some (.plain .sbInfo)
  | _ => none

/-- The instruction of a known opcode, with the tests of its format (R77, R79, R80). -/
def Opcode.instr (o : Opcode) (alg : BitVec 4) (imm8 : Byte) : Decoded :=
  match o with
  | .plain command => if alg = 0 ∧ imm8 = 0 then .command command else .illegal .unusedField
  | .withAlg command =>
    if imm8 = 0 then
      match Alg.ofCode alg with
      | some a => .command (command a)
      | none => .illegal .reservedAlgorithm
    else .illegal .unusedField
  | .withImm command => if alg = 0 then .command (command imm8) else .illegal .unusedField

/-- Decoding (R77): the fields of rule R71, the reserved bits, the opcode, then the format's tests. -/
def decode (c : Word32) : Decoded :=
  let op : BitVec 8 := c.extractLsb' 24 8
  let alg : BitVec 4 := c.extractLsb' 20 4
  let rsv : BitVec 12 := c.extractLsb' 8 12
  let imm8 : Byte := c.extractLsb' 0 8
  if rsv = 0 then
    match Opcode.ofByte op with
    | some o => o.instr alg imm8
    | none => .illegal .unknownOpcode
  else .illegal .reservedBits

/-- The instruction read from the table row's bits `w`, of which there are `nbits`; every bit above is 0. -/
def decodeTableWord (nbits w : Nat) : Option Instr :=
  match decode (BitVec.ofNat 32 (w % 2 ^ nbits)) with
  | .command i => some i
  | .illegal _ => none

/-- A command word from its fields (R71): `op`, `alg`, the reserved bits as zero, `imm8`. -/
def commandWord (op : BitVec 8) (alg : BitVec 4) (imm8 : Byte) : Word32 := op ++ alg ++ 0#12 ++ imm8

/-- Encoding (R84): the opcode of the row, the code of the algorithm, the immediate, unused fields zero. -/
def encode : Instr → Word32
  | .nop => commandWord 0x00 0 0
  | .clr => commandWord 0x01 0 0
  | .stat => commandWord 0x02 0 0
  | .rdid => commandWord 0x03 0 0
  | .fnvInit => commandWord 0x10 0 0
  | .fnvByte imm8 => commandWord 0x11 0 imm8
  | .fnvInt => commandWord 0x12 0 0
  | .fnvRd32 => commandWord 0x13 0 0
  | .fnvRd64 => commandWord 0x14 0 0
  | .smLd32 => commandWord 0x20 0 0
  | .smLd64 => commandWord 0x21 0 0
  | .smLdh32 => commandWord 0x22 0 0
  | .smLdh64 => commandWord 0x23 0 0
  | .smNext32 => commandWord 0x24 0 0
  | .smNext64 => commandWord 0x25 0 0
  | .seed alg => commandWord 0x30 alg.code 0
  | .adv => commandWord 0x31 0 0
  | .draw => commandWord 0x32 0 0
  | .int32 => commandWord 0x33 0 0
  | .double => commandWord 0x34 0 0
  | .cmpTry => commandWord 0x35 0 0
  | .snap => commandWord 0x38 0 0
  | .sbRd imm8 => commandWord 0x39 0 imm8
  | .sbClr alg => commandWord 0x3A alg.code 0
  | .sbPush => commandWord 0x3B 0 0
  | .restore alg => commandWord 0x3C alg.code 0
  | .sbInfo => commandWord 0x3D 0 0

end Sys2Proof
end

