-- ==== Sys2Proof/Config.lean ====
section
/-! DEFINITION. The implementation parameters of 00_scope.md rule R7, each a field of a configuration that every
command reads and none writes, and the one free value of the model: what the data registers of the block hold after
a reset that happens while the machine runs (10_state.md rules R40, R41; log entry 4). -/

namespace Sys2Proof

/-- `SM_MODE` (R7, R102): what the SplitMix state keeps after a step. -/
inductive SmMode where
  /-- the incremented value (the default) -/
  | counter
  /-- the mixed value -/
  | feedback
deriving DecidableEq, Repr

/-- `XORO_ABC` (R7, R140): which of the two published constant triples XORO128P uses. -/
inductive XoroAbc where
  /-- `(24, 16, 37)` (the default) -/
  | current
  /-- `(55, 14, 36)` -/
  | original
deriving DecidableEq, Repr

/-- `RETRY_LIMIT` (R7, R180): a positive number of rejected pairs, or `INF`. -/
inductive RetryLimit where
  /-- `INF` (the default): the retry loop of `DOUBLE` has no bound -/
  | inf
  /-- `DOUBLE` gives up after `limit` rejected pairs -/
  | finite (limit : Nat) (positive : 0 < limit)
deriving DecidableEq, Repr

/-- `VER` (R7, R37): the command-set version; rule R7 gives it the one value 1. -/
inductive CommandSet where
  /-- command set version 1 -/
  | v1
deriving DecidableEq, Repr

/-- The parameters one block is built with (R7). `NINST` belongs to the platform
(`Sys2Proof/Machine/Platform.lean`); of `BASE` rule R58 says that a model should not model it. -/
structure Config where
  smMode     : SmMode
  xoroAbc    : XoroAbc
  retryLimit : RetryLimit
  ver        : CommandSet
deriving DecidableEq, Repr

/-- The default of every parameter (R7). -/
def Config.default : Config where
  smMode     := .counter
  xoroAbc    := .current
  retryLimit := .inf
  ver        := .v1

/-- The registers whose contents rule R40 leaves unspecified after reset and `CLR` (`CORE` is not among them: no
core exists then, R25). -/
structure Contents where
  h32 : Word32
  h64 : Word64
  z32 : Word32
  z64 : Word64
  sb  : Vector Word32 130
deriving DecidableEq, Repr, Inhabited

/-- FREE VALUE (log entry 4): the unspecified contents that the `n`-th reset of a running block leaves in `H32`,
`H64`, `Z32`, `Z64` and `SB` (R40, R216, R251). It has no body: nothing can be proved of one
value. That two blocks, or two runs, reset equally often get the same contents is the model's choice (DESIGN CHOICE, log
entry 4): the spec relates no two blocks' contents (60_exceptions.md rule R243). -/
opaque Config.unspecified : Nat → Contents

end Sys2Proof
end

