-- ==== Sys2Proof/Machine/State.lean ====
section
/-! DEFINITION. The state of one TSR-PRBS block (10_state.md rules R20 to R43) as plain data, the command port the host
drives it through (30_encoding.md rule R70), the reasons a step can stop, and the state after reset (R40). -/

namespace Sys2Proof.Machine

/-! ### The core (R26 to R33) -/

/-- The XS128 core: a shift register of four words, `w` the newest (R27). -/
structure Xs128 where
  x : Word32
  y : Word32
  z : Word32
  w : Word32
deriving DecidableEq, Repr

/-- The XS7 core: a circular table of eight words `X` and a 3-bit index `i` (R28). -/
structure Xs7 where
  X : Vector Word32 8
  i : BitVec 3
deriving DecidableEq, Repr

/-- The XS4096 core: a circular table of 128 words `X`, a 7-bit index `i` and a Weyl counter `w` (R29). -/
structure Xs4096 where
  X : Vector Word32 128
  i : BitVec 7
  w : Word32
deriving DecidableEq, Repr

/-- The XORWOW core: five xorshift words and a Weyl counter `d` (R30). -/
structure Xorwow where
  x : Word32
  y : Word32
  z : Word32
  w : Word32
  v : Word32
  d : Word32
deriving DecidableEq, Repr

/-- The four words XO128PP and XO128P share the shape of (R31). -/
structure Xo128 where
  s0 : Word32
  s1 : Word32
  s2 : Word32
  s3 : Word32
deriving DecidableEq, Repr

/-- The XORO128P core: two 64-bit words (R32). -/
structure Xoro128 where
  s0 : Word64
  s1 : Word64
deriving DecidableEq, Repr

/-- The cores of word width `W = 32` (R3, R143), each with its algorithm's tag. -/
inductive Core32 where
  | xs128 (c : Xs128)
  | xs7 (c : Xs7)
  | xs4096 (c : Xs4096)
  | xorwow (c : Xorwow)
  | xo128pp (c : Xo128)
  | xo128p (c : Xo128)
  | sm32 (z : Word32)
deriving DecidableEq, Repr

/-- The cores of word width `W = 64` (R3, R143). -/
inductive Core64 where
  | xoro128p (c : Xoro128)
  | sm64 (z : Word64)
deriving DecidableEq, Repr

/-- `CORE` (R26): a tagged variant, one shape per algorithm. The tag is the register `ALG` (R25, R42; log entry 7). -/
inductive Core where
  | w32 (c : Core32)
  | w64 (c : Core64)
deriving DecidableEq, Repr

/-! ### Responses (R70, R226) and host inputs (R70, R250) -/

/-- The error codes of rule R226 (1 to 6 and 9), the values `ERR` can record (R34). -/
inductive ErrCode where
  /-- 1 `E_ILLEGAL`: the word is no legal command -/
  | illegal
  /-- 2 `E_INVALID_STATE`: `RESTORE` found a snapshot of the wrong shape -/
  | invalidState
  /-- 3 `E_UNSEEDED`: a core is needed and none exists -/
  | unseeded
  /-- 4 `E_NOHASH`: the hash accumulators are needed and hold nothing -/
  | noHash
  /-- 5 `E_NOZ`: the expander is needed and holds nothing -/
  | noZ
  /-- 6 `E_SBRANGE`: an index beyond the snapshot buffer's words, or a push on a full buffer -/
  | sbRange
  /-- 9 `E_RETRY`: `DOUBLE` rejected `RETRY_LIMIT` pairs in a row -/
  | retry
deriving DecidableEq, Repr

/-- The status `ST` of a response (R226): success, an error, or the result `S_REJECT`. -/
inductive Status where
  /-- 0 `OK` -/
  | ok
  /-- 8 `S_REJECT`: the composed value is zero; a result, not an error (R229) -/
  | reject
  /-- 1 to 6 and 9 -/
  | error (e : ErrCode)
deriving DecidableEq, Repr

/-- A response `(ST, RES, FRES)` (R70). -/
structure Response where
  st   : Status
  res  : Word64
  fres : Word64
deriving DecidableEq, Repr

/-- What the host can do to the block: issue a command word with its operand (R70), or pulse the reset input (R250). -/
inductive HostInput where
  | command (cmd : Word32) (arg : Word64)
  | reset
deriving DecidableEq, Repr

/-! ### The state -/

/-- The state of one block: the record of rule R20, then the model's own fields (the configuration, the command port,
the hang, the counter of the free value; log entries 1, 2, 4, 5). -/
structure State where
  /-- `HV` (R20, R21): the hash accumulators hold a value -/
  hv : Bool
  /-- `H32` (R21): the FNV-1a32 accumulator, readable while `HV = 1` -/
  h32 : Word32
  /-- `H64` (R21): the FNV-1a64 accumulator, readable while `HV = 1` -/
  h64 : Word64
  /-- `Z32V` (R20): `Z32` holds a value -/
  z32v : Bool
  /-- `Z32` (R22): the SplitMix32 expander state, readable while `Z32V = 1` -/
  z32 : Word32
  /-- `Z64V` (R20): `Z64` holds a value -/
  z64v : Bool
  /-- `Z64` (R22): the SplitMix64 expander state, readable while `Z64V = 1` -/
  z64 : Word64
  /-- `ALG` and `CORE` (R25, R26): no core (`ALG = 0`), or a core with its algorithm's tag -/
  core : Option Core
  /-- `ERR` (R34): the first error since reset, none for 0 -/
  err : Option ErrCode
  /-- `SBTAG` (R38): the algorithm the snapshot buffer is tagged with, none for 0 -/
  sbTag : Option Alg
  /-- `SBLEN` (R38): how many words the snapshot buffer holds, 0 to 130 -/
  sbLen : Fin 131
  /-- `SB[0..129]` (R38): the snapshot buffer's words, word `k` readable while `k < SBLEN` -/
  sb : Vector Word32 130
  /-- the model's own: the parameters of the block (R7); no step writes it -/
  cfg : Config
  /-- the model's own: the operand `ARG` of the command being executed (R70, R74) -/
  arg : Word64
  /-- the model's own: the last response (R70); none while there has been none since reset, and in the hang -/
  rsp : Option Response
  /-- the model's own: the host's inputs still to come, the next one first (R261) -/
  inbox : List HostInput
  /-- the model's own: a `DOUBLE` is retrying for ever (R237) -/
  hung : Bool
  /-- the model's own: how many free values of `Config.unspecified` have been used -/
  clears : Nat
deriving DecidableEq, Repr

/-- The reasons a step can end in a fault: none. The block has no traps (R225): every command ends with a response, an
error being a response too, and the one end without a response, the hang of rule R237, is a stuck state (`State.hung`).
So no constructor, and no step of the model faults. -/
inductive Fault where
deriving DecidableEq, Repr

/-- The reasons a step can refuse. -/
inductive Refusal where
  /-- Raised by an arm of `exec` whose instruction has no meaning yet; no arm is left so. Safe: a claim about that
  instruction could not be proved. -/
  | notModelled (mnemonic : String)
deriving DecidableEq, Repr

/-- What one step or one command answers. -/
abbrev Result := Host.Outcome State Fault Refusal

/-- The machine right after reset (R40, R251), with the default configuration (R7) and nothing issued by the host yet.
`H32`, `H64`, `Z32`, `Z64` and `SB` have no reset value in the spec; 0 is the model's own (DESIGN CHOICE, log entry 3),
and no command can read them (R41). -/
def State.reset : State where
  hv := false
  h32 := 0
  h64 := 0
  z32v := false
  z32 := 0
  z64v := false
  z64 := 0
  core := none
  err := none
  sbTag := none
  sbLen := 0
  sb := Vector.replicate 130 0
  cfg := Config.default
  arg := 0
  rsp := none
  inbox := []
  hung := false
  clears := 0

end Sys2Proof.Machine
end

