-- ==== Sys2Proof/Machine/Flags.lean ====
section
/-! DEFINITION. The flags and the read-only control words: the codes of `ALG`, `SBTAG` and `ERR` (00_scope.md rule R3,
60_exceptions.md rule R226), the derived flag `SEEDED` (10_state.md rule R35), the STATUS word (rule R36) and the ID word
(rule R37). There are no arithmetic condition codes (rule R35). -/

namespace Sys2Proof.Machine

/-- The status code of an error (R226). -/
def ErrCode.code : ErrCode → BitVec 4
  | .illegal => 1
  | .invalidState => 2
  | .unseeded => 3
  | .noHash => 4
  | .noZ => 5
  | .sbRange => 6
  | .retry => 9

/-- The status code `ST` of a response (R226). -/
def Status.code : Status → BitVec 4
  | .ok => 0
  | .reject => 8
  | .error e => e.code

/-- The algorithm of a 32-bit core. -/
def Core32.alg : Core32 → Alg
  | .xs128 _ => .xs128
  | .xs7 _ => .xs7
  | .xs4096 _ => .xs4096
  | .xorwow _ => .xorwow
  | .xo128pp _ => .xo128pp
  | .xo128p _ => .xo128p
  | .sm32 _ => .sm32

/-- The algorithm of a 64-bit core. -/
def Core64.alg : Core64 → Alg
  | .xoro128p _ => .xoro128p
  | .sm64 _ => .sm64

/-- The algorithm of a core: the tag of the variant (R26). -/
def Core.alg : Core → Alg
  | .w32 c => c.alg
  | .w64 c => c.alg

/-- The algorithm of the constructed core, none while no core exists (R25). -/
def State.alg (s : State) : Option Alg := s.core.map Core.alg

/-- The 4-bit code of an algorithm register, 0 for none (R3). -/
def algCode (a : Option Alg) : BitVec 4 :=
  match a with
  | none => 0
  | some a => a.code

/-- The 4-bit code of `ERR`, 0 for none (R34). -/
def errCode (e : Option ErrCode) : BitVec 4 :=
  match e with
  | none => 0
  | some e => e.code

/-- The register `ALG` (R25). -/
def State.algBits (s : State) : BitVec 4 := algCode s.alg

/-- The flag `SEEDED = (ALG != 0)` (R35). -/
def State.seeded (s : State) : Bool := s.algBits != 0

/-- The register `SBLEN` as its 8 bits (R38). -/
def State.sbLenBits (s : State) : BitVec 8 := BitVec.ofNat 8 s.sbLen.val

/-- The STATUS word (R36), from bit 31 down: reserved zeros, `SBLEN`, `SBTAG`, `ERR`, `ALG`, `SEEDED`, `Z64V`, `Z32V`,
`HV`. -/
def State.statusWord (s : State) : Word32 :=
  0#8 ++ s.sbLenBits ++ algCode s.sbTag ++ errCode s.err ++ s.algBits
    ++ BitVec.ofBool s.seeded ++ BitVec.ofBool s.z64v ++ BitVec.ofBool s.z32v ++ BitVec.ofBool s.hv

/-- The word `SB.INFO` returns (R203), from bit 15 down: `SBLEN`, four zeros, `SBTAG`. -/
def State.bufferInfo (s : State) : Word32 := 0#16 ++ s.sbLenBits ++ 0#4 ++ algCode s.sbTag

/-- The field `VER` (R37). -/
def verBits : CommandSet → BitVec 8
  | .v1 => 1

/-- The field `SMF` (R37). -/
def smfBit : SmMode → BitVec 1
  | .counter => 0
  | .feedback => 1

/-- The field `XOV` (R37). -/
def xovBit : XoroAbc → BitVec 1
  | .current => 0
  | .original => 1

/-- The ID word (R37), from bit 31 down: reserved zeros, `XOV`, `SMF`, `VER`. -/
def idWord (cfg : Config) : Word32 := 0#22 ++ xovBit cfg.xoroAbc ++ smfBit cfg.smMode ++ verBits cfg.ver

end Sys2Proof.Machine
end

