-- ==== Sys2Proof/Machine/Operands.lean ====
section
/-! DEFINITION. The operand forms: the fields of `ARG` that the commands read (20_memory.md rule R59, 30_encoding.md
rule R74) and the widening of results to the 64-bit `RES` (rules R59, R75). The operands in the command word, `imm8` and
`alg` (rule R73), are arguments of the instruction itself. -/

namespace Sys2Proof.Machine

/-- `ARG[63:0]`, the operand of `FNV.INT` and `SM.LD64`. -/
def State.arg64 (s : State) : Word64 := s.arg

/-- `ARG[31:0]`, the operand of `SM.LD32` and `SB.PUSH`, and the second draw of `CMP.TRY`. -/
def State.argLow (s : State) : Word32 := s.arg.extractLsb' 0 32

/-- `ARG[63:32]`, the first draw of `CMP.TRY`. -/
def State.argHigh (s : State) : Word32 := s.arg.extractLsb' 32 32

/-- The eight bytes of a 64-bit integer, least significant first (R54, R96). -/
def bytesOf (v : Word64) : List Byte := [
  v.extractLsb' 0 8, v.extractLsb' 8 8, v.extractLsb' 16 8, v.extractLsb' 24 8,
  v.extractLsb' 32 8, v.extractLsb' 40 8, v.extractLsb' 48 8, v.extractLsb' 56 8]

/-- `v[31:0]`. -/
def lowHalf (v : Word64) : Word32 := v.extractLsb' 0 32

/-- `v[63:32]`. -/
def highHalf (v : Word64) : Word32 := v.extractLsb' 32 32

/-- `{hi, lo}`: a 64-bit word from its halves (R55). -/
def joinHalves (lo hi : Word32) : Word64 := hi ++ lo

/-- `zext_64` of a 32-bit result (R11, R59). -/
def zext32 (v : Word32) : Word64 := v.setWidth 64

/-- `sext_64` of a 32-bit result (R11, R59). -/
def sext32 (v : Word32) : Word64 := v.signExtend 64

/-- `zext_64` of a 53-bit result (R11, R59). -/
def zext53 (n : Frac53) : Word64 := n.setWidth 64

end Sys2Proof.Machine
end

