-- ==== Sys2Proof/Machine/Ops.lean ====
section
/-! DEFINITION. The named operations of the machine: the rotation of 00_scope.md rule R11, the update of each group of
registers, the response of a command, taking an error (60_exceptions.md rule R232), the hang (rule R237), reset
(70_reset_and_hazards.md rules R250, R251), the snapshot buffer's reads and writes (20_memory.md rule R51), and the
command port's acceptance of a command (30_encoding.md rule R70). There is no return from an error (rule R234). -/

namespace Sys2Proof.Machine

/-- `rotl32(a, k)` (R11), for `0 < k < 32`. -/
def rotl32 (a : Word32) (k : Nat) : Word32 := a <<< k ||| a >>> (32 - k)

/-- `rotl64(a, k)` (R11), for `0 < k < 64`. -/
def rotl64 (a : Word64) (k : Nat) : Word64 := a <<< k ||| a >>> (64 - k)

/-! ### Register updates -/

/-- Both hash accumulators get a value (R21). -/
def State.setHash (s : State) (h32 : Word32) (h64 : Word64) : State :=
  { s with hv := true, h32 := h32, h64 := h64 }

/-- The SplitMix32 expander gets a value (R22, R35). -/
def State.setZ32 (s : State) (z : Word32) : State := { s with z32v := true, z32 := z }

/-- The SplitMix64 expander gets a value (R22, R35). -/
def State.setZ64 (s : State) (z : Word64) : State := { s with z64v := true, z64 := z }

/-- `ALG` and `CORE` get a core (R25, R26). -/
def State.setCore (s : State) (c : Core) : State := { s with core := some c }

/-- The snapshot buffer gets a tag, a length and words (R38). -/
def State.setBuffer (s : State) (tag : Option Alg) (len : Fin 131) (sb : Vector Word32 130) : State :=
  { s with sbTag := tag, sbLen := len, sb := sb }

/-! ### The snapshot buffer's words -/

/-- `MemRead(SB, k, 4)` (R51): defined only for `k < SBLEN`. -/
def State.sbRead (s : State) (k : Nat) : Option Word32 := if k < s.sbLen.val then s.sb[k]? else none

/-- Write a list of words at the indices `k`, `k + 1`, … of the buffer (R199). -/
def writeWords (sb : Vector Word32 130) (k : Nat) : List Word32 → Vector Word32 130
  | [] => sb
  | w :: ws => writeWords (sb.setIfInBounds k w) (k + 1) ws

/-! ### Responses and errors -/

/-- `respond(st, res, fres)` (R13, R70). -/
def State.respond (s : State) (st : Status) (res fres : Word64) : State := { s with rsp := some ⟨st, res, fres⟩ }

/-- `respond(OK, res, fres)` (R75). -/
def State.ok (s : State) (res fres : Word64) : State := s.respond .ok res fres

/-- The sticky first cause (R34, R232, R235): `ERR` takes an error code only while it holds none. -/
def recordFirst (err : Option ErrCode) (e : ErrCode) : Option ErrCode :=
  match err with
  | none => some e
  | some first => some first

/-- `raise E(code)`, the block's exception entry (R232): `ERR` records the first cause, the response carries the code
with `RES = 0` and `FRES = 0`, nothing else changes. -/
def State.raise (s : State) (e : ErrCode) : State := { s with err := recordFirst s.err e, rsp := some ⟨.error e, 0, 0⟩ }

/-- The hang (R237): the command under way never responds. -/
def State.hang (s : State) : State := { s with hung := true, rsp := none }

/-! ### Reset -/

/-- Reset of a running block (R40, R216, R250, R251): the flags, `ALG`, `ERR`, `SBTAG` and `SBLEN` become 0, the hang
ends, and the contents of `H32`, `H64`, `Z32`, `Z64` and `SB` become unspecified, here a free value (log entry 4; it
depends on the number of resets alone, so two blocks of a platform reset equally often get equal contents, which is the
model's choice: R243 relates no two blocks' contents). The configuration is not state and is not changed (R251). -/
def State.clear (s : State) : State :=
  { s with
    hv := false
    h32 := (Config.unspecified s.clears).h32
    h64 := (Config.unspecified s.clears).h64
    z32v := false
    z32 := (Config.unspecified s.clears).z32
    z64v := false
    z64 := (Config.unspecified s.clears).z64
    core := none
    err := none
    sbTag := none
    sbLen := 0
    sb := (Config.unspecified s.clears).sb
    hung := false
    clears := s.clears + 1 }

/-- The reset input (R250): a reset with no response. -/
def State.pulseReset (s : State) : State := { s.clear with rsp := none }

/-! ### The command port -/

/-- The rest of the host's inputs, after one has been taken. -/
def State.setInbox (s : State) (inbox : List HostInput) : State := { s with inbox := inbox }

/-- The operand of the command the block has accepted (R70). -/
def State.setArg (s : State) (arg : Word64) : State := { s with arg := arg }

/-- The host presents a command word, with the operand that stands at the port, as the very next input of a block that
is not hanging. -/
def State.present (s : State) (cmd : Word32) : State :=
  { s with inbox := .command cmd s.arg :: s.inbox, hung := false }

end Sys2Proof.Machine
end

