-- ==== Sys2Proof/Machine/Control.lean ====
section
/-! DEFINITION. The control commands (47_control.md): `NOP`, `CLR`, `STAT`, `RDID`. -/

namespace Sys2Proof.Machine

/-- `NOP` (R215): a response, and nothing else. -/
def execNop (s : State) : Result := .next (s.ok 0 0)

/-- `CLR` (R216): the soft reset. -/
def execClr (s : State) : Result := .next (s.clear.ok 0 0)

/-- `STAT` (R217): the STATUS word, read without effect. -/
def execStat (s : State) : Result := .next (s.ok (zext32 s.statusWord) 0)

/-- `RDID` (R218): the ID word of the configuration. -/
def execRdid (s : State) : Result := .next (s.ok (zext32 (idWord s.cfg)) 0)

end Sys2Proof.Machine
end

