-- ==== Sys2Proof/Machine/Snapshot.lean ====
section
/-! DEFINITION. Snapshot and restore (46_snapshot.md): the word layout of each algorithm, its inverse with the three tests
of the shape, and the commands `SNAP`, `SB.RD`, `SB.CLR`, `SB.PUSH`, `SB.INFO`, `RESTORE`. -/

namespace Sys2Proof.Machine

/-- `NWORDS(alg)` (R196). -/
def nwords : Alg → Fin 131
  | .xs128 => 4
  | .xs7 => 9
  | .xs4096 => 130
  | .xorwow => 6
  | .xo128pp => 4
  | .xo128p => 4
  | .xoro128p => 4
  | .sm32 => 1
  | .sm64 => 2

/-- `snap_words` of the 32-bit cores (R197); an index takes one word, zero-extended. -/
def snapWords32 : Core32 → List Word32
  | .xs128 c => [c.x, c.y, c.z, c.w]
  | .xs7 c => c.X.toList ++ [c.i.setWidth 32]
  | .xs4096 c => c.X.toList ++ [c.i.setWidth 32, c.w]
  | .xorwow c => [c.x, c.y, c.z, c.w, c.v, c.d]
  | .xo128pp c => [c.s0, c.s1, c.s2, c.s3]
  | .xo128p c => [c.s0, c.s1, c.s2, c.s3]
  | .sm32 z => [z]

/-- `snap_words` of the 64-bit cores (R197); a 64-bit word takes two words, the low half first (R55). -/
def snapWords64 : Core64 → List Word32
  | .xoro128p c => [lowHalf c.s0, highHalf c.s0, lowHalf c.s1, highHalf c.s1]
  | .sm64 z => [lowHalf z, highHalf z]

/-- `snap_words(alg, core)` (R197). -/
def snapWords : Core → List Word32
  | .w32 c => snapWords32 c
  | .w64 c => snapWords64 c

/-- The `m` words of the buffer from index `k` on. -/
def wordsAt (L : Vector Word32 130) (k m : Nat) (h : k + m ≤ 130) : Vector Word32 m :=
  Vector.ofFn fun j : Fin m => L[k + j.val]'(by have := j.isLt; omega)

/-- The core an algorithm's words stand for, unless an index word is out of range (R196, R198). -/
def coreOfWords (alg : Alg) (L : Vector Word32 130) : Option Core :=
  match alg with
  | .xs128 => some (.w32 (.xs128 ⟨L[0], L[1], L[2], L[3]⟩))
  | .xs7 =>
    if L[8].toNat ≤ 7 then some (.w32 (.xs7 ⟨wordsAt L 0 8 (by decide), L[8].setWidth 3⟩)) else none
  | .xs4096 =>
    if L[128].toNat ≤ 127 then
      some (.w32 (.xs4096 ⟨wordsAt L 0 128 (by decide), L[128].setWidth 7, L[129]⟩))
    else none
  | .xorwow => some (.w32 (.xorwow ⟨L[0], L[1], L[2], L[3], L[4], L[5]⟩))
  | .xo128pp => some (.w32 (.xo128pp ⟨L[0], L[1], L[2], L[3]⟩))
  | .xo128p => some (.w32 (.xo128p ⟨L[0], L[1], L[2], L[3]⟩))
  | .xoro128p => some (.w64 (.xoro128p ⟨joinHalves L[0] L[1], joinHalves L[2] L[3]⟩))
  | .sm32 => some (.w32 (.sm32 L[0]))
  | .sm64 => some (.w64 (.sm64 (joinHalves L[0] L[1])))

/-- `restore_words(alg, tag, len, L)` (R198): none for `invalid`, when the tag is not `alg`, the length is not
`NWORDS(alg)`, or an index word is out of range. -/
def restoreWords (alg : Alg) (tag : Option Alg) (len : Fin 131) (L : Vector Word32 130) : Option Core :=
  if tag = some alg then
    if len = nwords alg then coreOfWords alg L else none
  else none

/-- `SNAP` (R199): the words at index `NWORDS` and above keep what they held and are unreadable. -/
def execSnap (s : State) : Result :=
  match s.core with
  | none => .next (s.raise .unseeded)
  | some c => .next ((s.setBuffer (some c.alg) (nwords c.alg) (writeWords s.sb 0 (snapWords c))).ok 0 0)

/-- `SB.RD imm8` (R200). -/
def execSbRd (imm8 : Byte) (s : State) : Result :=
  match s.sbRead imm8.toNat with
  | some w => .next (s.ok (zext32 w) 0)
  | none => .next (s.raise .sbRange)

/-- `SB.CLR alg` (R201): the words are not erased. -/
def execSbClr (alg : Alg) (s : State) : Result := .next ((s.setBuffer (some alg) 0 s.sb).ok 0 0)

/-- `SB.PUSH` (R202). -/
def execSbPush (s : State) : Result :=
  if h : s.sbLen.val < 130 then
    .next ((s.setBuffer s.sbTag ⟨s.sbLen.val + 1, by omega⟩ (s.sb.set s.sbLen.val s.argLow h)).ok 0 0)
  else .next (s.raise .sbRange)

/-- `RESTORE alg` (R204). -/
def execRestore (alg : Alg) (s : State) : Result :=
  match restoreWords alg s.sbTag s.sbLen s.sb with
  | none => .next (s.raise .invalidState)
  | some c => .next ((s.setCore c).ok 0 0)

/-- `SB.INFO` (R203). -/
def execSbInfo (s : State) : Result := .next (s.ok (zext32 s.bufferInfo) 0)

end Sys2Proof.Machine
end

