-- ==== Sys2Proof/Machine/SplitMix.lean ====
section
/-! DEFINITION. The SplitMix word-expansion stream (41_splitmix_expander.md): the mixes, the step, the expansion of a hash
into words, the non-zero remap, and the six `SM` commands. -/

namespace Sys2Proof.Machine

/-- `z ^= z >> k`, the xorshift line of both mixes (R101). -/
def xorShr {n : Nat} (z : BitVec n) (k : Nat) : BitVec n := z ^^^ z >>> k

/-- `mix32` (R101). -/
def mix32 (z : Word32) : Word32 := xorShr (xorShr (xorShr z 16 * 0x85ebca6b) 13 * 0xc2b2ae35) 16

/-- `mix64` (R101). -/
def mix64 (z : Word64) : Word64 :=
  xorShr (xorShr (xorShr z 30 * 0xbf58476d1ce4e5b9) 27 * 0x94d049bb133111eb) 31

/-- What the stream keeps after a step: the incremented or the mixed value (`SM_MODE`, R102). -/
def smKeeps {n : Nat} (mode : SmMode) (incremented mixed : BitVec n) : BitVec n :=
  match mode with
  | .counter => incremented
  | .feedback => mixed

/-- The output of one SplitMix32 step (R102): the mix of the incremented state. -/
def sm32Out (z : Word32) : Word32 := mix32 (z + 0x9e3779b9)

/-- The output of one SplitMix64 step (R102). -/
def sm64Out (z : Word64) : Word64 := mix64 (z + 0x9e3779b97f4a7c15)

/-- The state after one SplitMix32 step (R102). -/
def sm32Next (mode : SmMode) (z : Word32) : Word32 := smKeeps mode (z + 0x9e3779b9) (sm32Out z)

/-- The state after one SplitMix64 step (R102). -/
def sm64Next (mode : SmMode) (z : Word64) : Word64 := smKeeps mode (z + 0x9e3779b97f4a7c15) (sm64Out z)

/-- The outputs of `n` steps of a stream from `z`, the first produced first (R103). -/
def streamWords {w : Nat} (out next : BitVec w → BitVec w) : BitVec w → Nat → List (BitVec w)
  | _, 0 => []
  | z, n + 1 => out z :: streamWords out next (next z) n

/-- The state of a stream after `n` steps from `z` (R103). -/
def streamAfter {w : Nat} (next : BitVec w → BitVec w) : BitVec w → Nat → BitVec w
  | z, 0 => z
  | z, n + 1 => streamAfter next (next z) n

/-- `n` steps produce `n` words (R103). -/
theorem streamWords_length {w : Nat} (out next : BitVec w → BitVec w) (z : BitVec w) (n : Nat) :
    (streamWords out next z n).length = n := by
  induction n generalizing z with
  | zero => rfl
  | succ n ih => simp [streamWords, ih]

/-- The words of `expand32(z, n)` (R103). -/
def expand32 (mode : SmMode) (z : Word32) (n : Nat) : Vector Word32 n :=
  ⟨(streamWords sm32Out (sm32Next mode) z n).toArray, by simp [streamWords_length]⟩

/-- The state `expand32(z, n)` returns (R103). -/
def expand32State (mode : SmMode) (z : Word32) (n : Nat) : Word32 := streamAfter (sm32Next mode) z n

/-- The words of `expand64(z, n)` (R103). -/
def expand64 (mode : SmMode) (z : Word64) (n : Nat) : Vector Word64 n :=
  ⟨(streamWords sm64Out (sm64Next mode) z n).toArray, by simp [streamWords_length]⟩

/-- The state `expand64(z, n)` returns (R103). -/
def expand64State (mode : SmMode) (z : Word64) (n : Nat) : Word64 := streamAfter (sm64Next mode) z n

/-- `(1, 0, 0, …, 0)` (R104). -/
def unitWords {w : Nat} (n : Nat) : Vector (BitVec w) n := (Vector.replicate n 0).setIfInBounds 0 1

/-- The non-zero remap `nz` (R104): an all-zero vector becomes `(1, 0, …, 0)`, any other is itself. -/
def nz {w n : Nat} (v : Vector (BitVec w) n) : Vector (BitVec w) n :=
  if v.toList.all (· == 0) then unitWords n else v

/-- `SM.LD32` (R106). -/
def execSmLd32 (s : State) : Result := .next ((s.setZ32 s.argLow).ok 0 0)

/-- `SM.LD64` (R107). -/
def execSmLd64 (s : State) : Result := .next ((s.setZ64 s.arg64).ok 0 0)

/-- `SM.LDH32` (R108). -/
def execSmLdh32 (s : State) : Result :=
  if s.hv then .next ((s.setZ32 s.h32).ok 0 0) else .next (s.raise .noHash)

/-- `SM.LDH64` (R109). -/
def execSmLdh64 (s : State) : Result :=
  if s.hv then .next ((s.setZ64 s.h64).ok 0 0) else .next (s.raise .noHash)

/-- `SM.NEXT32` (R110). -/
def execSmNext32 (s : State) : Result :=
  if s.z32v then .next ((s.setZ32 (sm32Next s.cfg.smMode s.z32)).ok (zext32 (sm32Out s.z32)) 0)
  else .next (s.raise .noZ)

/-- `SM.NEXT64` (R111). -/
def execSmNext64 (s : State) : Result :=
  if s.z64v then .next ((s.setZ64 (sm64Next s.cfg.smMode s.z64)).ok (sm64Out s.z64) 0)
  else .next (s.raise .noZ)

end Sys2Proof.Machine
end

