-- ==== Sys2Proof/Machine/Xorshift.lean ====
section
/-! DEFINITION. The advance functions of the xorshift cores (42_xorshift_cores.md): each takes the core's words and gives
the new words and one raw output. The spec supplies these formulas from general knowledge (log entry 10). -/

namespace Sys2Proof.Machine

/-- `adv_xs128` (R121): the output is the new `w`. -/
def advXs128 (c : Xs128) : Xs128 × Word32 :=
  let t := c.x ^^^ c.x <<< 11
  let w := c.w ^^^ c.w >>> 19 ^^^ t ^^^ t >>> 8
  (⟨c.y, c.z, c.w, w⟩, w)

/-- A word of the eight-word table; the index is taken modulo 8 by its width (R52, R122). -/
def read8 (X : Vector Word32 8) (i : BitVec 3) : Word32 := X[i.toNat]'i.isLt

/-- The table with one word overwritten. -/
def write8 (X : Vector Word32 8) (i : BitVec 3) (v : Word32) : Vector Word32 8 := X.set i.toNat v i.isLt

/-- `adv_xs7` (R122): five taps of the table as it was, then the one write; the output is the word written. -/
def advXs7 (c : Xs7) : Xs7 × Word32 :=
  let t0 := read8 c.X c.i
  let t1 := read8 c.X (c.i + 1)
  let t3 := read8 c.X (c.i + 3)
  let t4 := read8 c.X (c.i + 4)
  let t7 := read8 c.X (c.i + 7)
  let p0 := t0 ^^^ t0 >>> 7
  let p7 := t7 ^^^ t7 <<< 13
  let v := p0 ^^^ p0 <<< 24 ^^^ (t1 ^^^ t1 >>> 10) ^^^ (t3 ^^^ t3 >>> 3) ^^^ (t4 ^^^ t4 <<< 7) ^^^ (p7 ^^^ p7 <<< 9)
  (⟨write8 c.X c.i v, c.i + 1⟩, v)

/-- A word of the 128-word table; the index is taken modulo 128 by its width (R52, R123). -/
def read128 (X : Vector Word32 128) (i : BitVec 7) : Word32 := X[i.toNat]'i.isLt

/-- The table with one word overwritten. -/
def write128 (X : Vector Word32 128) (i : BitVec 7) (v : Word32) : Vector Word32 128 := X.set i.toNat v i.isLt

/-- The word the XS4096 table round makes of its two taps (R123). -/
def xs4096Mix (v t : Word32) : Word32 :=
  let v1 := v ^^^ v <<< 13
  let t1 := t ^^^ t <<< 17
  (v1 ^^^ v1 >>> 15) ^^^ (t1 ^^^ t1 >>> 12)

/-- The word `xs4096_round` writes and returns (R123), from the taps `i + 34` and `i + 1`. -/
def xs4096RoundWord (c : Xs4096) : Word32 := xs4096Mix (read128 c.X (c.i + 34)) (read128 c.X (c.i + 1))

/-- `xs4096_round` (R123): the word at `i + 1` is overwritten and the index advances; the Weyl counter stands still. -/
def xs4096Round (c : Xs4096) : Xs4096 :=
  { c with X := write128 c.X (c.i + 1) (xs4096RoundWord c), i := c.i + 1 }

/-- `adv_xs4096` (R124): one Weyl step, one table round, and their sum; the output uses the new Weyl counter. -/
def advXs4096 (c : Xs4096) : Xs4096 × Word32 :=
  let w := c.w + 0x61c88647
  ({ xs4096Round c with w := w }, xs4096RoundWord c + (w ^^^ w >>> 16))

/-- `adv_xorwow` (R125): the output is the sum of the new `d` and the new `v`. -/
def advXorwow (c : Xorwow) : Xorwow × Word32 :=
  let t := c.x ^^^ c.x >>> 2
  let v := (c.v ^^^ c.v <<< 4) ^^^ (t ^^^ t <<< 1)
  let d := c.d + 362437
  (⟨c.y, c.z, c.w, c.v, v, d⟩, d + v)

end Sys2Proof.Machine
end

