-- ==== Sys2Proof/Machine/Xoshiro.lean ====
section
/-! DEFINITION. The advance functions of the xoshiro, xoroshiro and SplitMix cores and the dispatch over all nine
(43_xoshiro_cores.md). The xoshiro and xoroshiro formulas are supplied by the spec from general knowledge
(log entry 10); none multiplies (90_conflicts.md C3). -/

namespace Sys2Proof.Machine

/-- `xo128_update` (R136), its six assignments in order. -/
def xo128Update (c : Xo128) : Xo128 :=
  let t := c.s1 <<< 9
  let s2 := c.s2 ^^^ c.s0
  let s3 := c.s3 ^^^ c.s1
  let s1 := c.s1 ^^^ s2
  let s0 := c.s0 ^^^ s3
  ⟨s0, s1, s2 ^^^ t, rotl32 s3 11⟩

/-- `adv_xo128pp` (R137): the output is computed from the state before the update. -/
def advXo128pp (c : Xo128) : Xo128 × Word32 := (xo128Update c, rotl32 (c.s0 + c.s3) 7 + c.s0)

/-- `adv_xo128p` (R138). -/
def advXo128p (c : Xo128) : Xo128 × Word32 := (xo128Update c, c.s0 + c.s3)

/-- The triple `(a, b, c)` of `XORO_ABC` (R7, R140). -/
def xoroTriple : XoroAbc → Nat × Nat × Nat
  | .current => (24, 16, 37)
  | .original => (55, 14, 36)

/-- `adv_xoro128p` (R140). -/
def advXoro128p (abc : XoroAbc) (c : Xoro128) : Xoro128 × Word64 :=
  let (k1, k2, k3) := xoroTriple abc
  let u := c.s1 ^^^ c.s0
  (⟨rotl64 c.s0 k1 ^^^ u ^^^ u <<< k2, rotl64 u k3⟩, c.s0 + c.s1)

/-- `adv_sm32` (R141): one step of the stream on the core's own word. -/
def advSm32 (mode : SmMode) (z : Word32) : Word32 × Word32 := (sm32Next mode z, sm32Out z)

/-- `adv_sm64` (R142). -/
def advSm64 (mode : SmMode) (z : Word64) : Word64 × Word64 := (sm64Next mode z, sm64Out z)

/-- `advance(alg, core)` for the algorithms of width 32 (R143). -/
def advance32 (cfg : Config) : Core32 → Core32 × Word32
  | .xs128 c => (.xs128 (advXs128 c).1, (advXs128 c).2)
  | .xs7 c => (.xs7 (advXs7 c).1, (advXs7 c).2)
  | .xs4096 c => (.xs4096 (advXs4096 c).1, (advXs4096 c).2)
  | .xorwow c => (.xorwow (advXorwow c).1, (advXorwow c).2)
  | .xo128pp c => (.xo128pp (advXo128pp c).1, (advXo128pp c).2)
  | .xo128p c => (.xo128p (advXo128p c).1, (advXo128p c).2)
  | .sm32 z => (.sm32 (advSm32 cfg.smMode z).1, (advSm32 cfg.smMode z).2)

/-- `advance(alg, core)` for the algorithms of width 64 (R143). -/
def advance64 (cfg : Config) : Core64 → Core64 × Word64
  | .xoro128p c => (.xoro128p (advXoro128p cfg.xoroAbc c).1, (advXoro128p cfg.xoroAbc c).2)
  | .sm64 z => (.sm64 (advSm64 cfg.smMode z).1, (advSm64 cfg.smMode z).2)

/-- The core after one advance, its output thrown away: a discard round (R152). -/
def advanceCore (cfg : Config) : Core → Core
  | .w32 c => .w32 (advance32 cfg c).1
  | .w64 c => .w64 (advance64 cfg c).1

end Sys2Proof.Machine
end

