-- ==== Sys2Proof/Machine/Draw.lean ====
section
/-! DEFINITION. The output forms and the rejection-sampling composer (45_draw_facade.md): the binary64 image, `ADV`,
`DRAW`, `INT32`, `DOUBLE` with its retry loop and its hang (60_exceptions.md rule R237), and `CMP.TRY`. -/

namespace Sys2Proof.Machine

/-- `f64_of_frac53(N)` (R175): the binary64 pattern of `N / 2^53`: sign 0, the biased exponent `970 + p` where `p` is the
position of the most significant 1 of `N`, and the 52 bits below that 1, moved to the top of the fraction. -/
def f64OfFrac53 (n : Frac53) : Word64 :=
  if n = 0 then 0
  else
    let p := n.toNat.log2
    0#1 ++ BitVec.ofNat 11 (970 + p) ++ BitVec.ofNat 52 (n.toNat * 2 ^ (52 - p))

/-- `compose53(a, b) = {a[31:11], b}` (R176). -/
def compose53 (a b : Word32) : Frac53 := a.extractLsb' 11 21 ++ b

/-- `out * 2^21`: the 53-bit numerator of a 32-bit raw output (R172). -/
def frac53Of32 (out : Word32) : Frac53 := out ++ 0#21

/-- `shr64(out, 11)`: the top 53 bits of a 64-bit raw output (R172, R179). -/
def frac53Of64 (out : Word64) : Frac53 := out.extractLsb' 11 53

/-- `ADV` (R171). -/
def execAdv (s : State) : Result :=
  match s.core with
  | none => .next (s.raise .unseeded)
  | some (.w32 c) => .next ((s.setCore (.w32 (advance32 s.cfg c).1)).ok (zext32 (advance32 s.cfg c).2) 0)
  | some (.w64 c) => .next ((s.setCore (.w64 (advance64 s.cfg c).1)).ok (advance64 s.cfg c).2 0)

/-- `DRAW`, and its alias `QUICK` (R172, R173). -/
def execDraw (s : State) : Result :=
  match s.core with
  | none => .next (s.raise .unseeded)
  | some (.w32 c) =>
    let out := (advance32 s.cfg c).2
    .next ((s.setCore (.w32 (advance32 s.cfg c).1)).ok (zext32 out) (f64OfFrac53 (frac53Of32 out)))
  | some (.w64 c) =>
    let out := (advance64 s.cfg c).2
    .next ((s.setCore (.w64 (advance64 s.cfg c).1)).ok out (f64OfFrac53 (frac53Of64 out)))

/-- `INT32` (R174): of a 64-bit raw output the upper half. -/
def execInt32 (s : State) : Result :=
  match s.core with
  | none => .next (s.raise .unseeded)
  | some (.w32 c) => .next ((s.setCore (.w32 (advance32 s.cfg c).1)).ok (sext32 (advance32 s.cfg c).2) 0)
  | some (.w64 c) =>
    .next ((s.setCore (.w64 (advance64 s.cfg c).1)).ok (sext32 (highHalf (advance64 s.cfg c).2)) 0)

/-! ### The retry loop (R178, R180) -/

/-- The core after one pair of draws. -/
def pairCore (cfg : Config) (c : Core32) : Core32 := (advance32 cfg (advance32 cfg c).1).1

/-- The numerator one pair of draws composes: the first draw is the upper part. -/
def pairFrac (cfg : Config) (c : Core32) : Frac53 :=
  compose53 (advance32 cfg c).2 (advance32 cfg (advance32 cfg c).1).2

/-- What a bounded run of the retry loop ends with. -/
inductive PairSearch where
  /-- a pair composed to `n`, not zero, and left the core `c` -/
  | found (c : Core32) (n : Frac53)
  /-- every pair was rejected; the core is `c` -/
  | exhausted (c : Core32)
deriving DecidableEq, Repr

/-- The loop of rule R178 with at most `attempts` pairs; a rejected pair is consumed whole. -/
def tryPairs (cfg : Config) : Nat → Core32 → PairSearch
  | 0, c => .exhausted c
  | attempts + 1, c =>
    if pairFrac cfg c = 0 then tryPairs cfg attempts (pairCore cfg c)
    else .found (pairCore cfg c) (pairFrac cfg c)

/-- The cores rule R237 names as hanging: XS128, XS7, XO128PP and XO128P with all linear-feedback words zero. -/
def stuckAtZero : Core32 → Bool
  | .xs128 c => c.x == 0 && c.y == 0 && c.z == 0 && c.w == 0
  | .xs7 c => c.X.toList.all (· == 0)
  | .xs4096 _ => false
  | .xorwow _ => false
  | .xo128pp c => c.s0 == 0 && c.s1 == 0 && c.s2 == 0 && c.s3 == 0
  | .xo128p c => c.s0 == 0 && c.s1 == 0 && c.s2 == 0 && c.s3 == 0
  | .sm32 _ => false

/-- A number no smaller than the number of cores of an algorithm: its snapshot of `NWORDS` words determines a core
(R205). A loop that rejects this many pairs in a row has come back to a core it was at, and rejects for ever (log
entry 6). -/
def coreBound (c : Core32) : Nat := 2 ^ (32 * (nwords c.alg).val)

/-- The unbounded loop (`RETRY_LIMIT = INF`, R180): it either finds a pair or is known never to. -/
def tryForever (cfg : Config) (c : Core32) : PairSearch :=
  if stuckAtZero c then .exhausted c else tryPairs cfg (coreBound c) c

/-- `DOUBLE` (R178 on a 32-bit core, R179 on a 64-bit core). With a finite `RETRY_LIMIT` it gives up with `E_RETRY`, the
rejected pairs consumed (R230); with `INF` it hangs where the loop never ends (R237). -/
def execDouble (s : State) : Result :=
  match s.core with
  | none => .next (s.raise .unseeded)
  | some (.w64 c) =>
    let n := frac53Of64 (advance64 s.cfg c).2
    .next ((s.setCore (.w64 (advance64 s.cfg c).1)).ok (zext53 n) (f64OfFrac53 n))
  | some (.w32 c) =>
    match s.cfg.retryLimit with
    | .finite limit _ =>
      match tryPairs s.cfg limit c with
      | .found c' n => .next ((s.setCore (.w32 c')).ok (zext53 n) (f64OfFrac53 n))
      | .exhausted c' => .next ((s.setCore (.w32 c')).raise .retry)
    | .inf =>
      match tryForever s.cfg c with
      | .found c' n => .next ((s.setCore (.w32 c')).ok (zext53 n) (f64OfFrac53 n))
      | .exhausted _ => .next s.hang

/-- `CMP.TRY` (R181): one attempt of the composer on the words of `ARG`; a zero is reported, not an error (R229). -/
def execCmpTry (s : State) : Result :=
  let n := compose53 s.argHigh s.argLow
  if n = 0 then .next (s.respond .reject 0 0) else .next (s.ok (zext53 n) (f64OfFrac53 n))

end Sys2Proof.Machine
end

