-- ==== Sys2Proof/Machine/Fnv.lean ====
section
/-! DEFINITION. The FNV-1a hash mixer (40_fnv_hash.md): the folds and the five `FNV` commands. -/

namespace Sys2Proof.Machine

/-- The 32-bit offset basis (R91). -/
def fnv32Basis : Word32 := 0x811c9dc5

/-- The 64-bit offset basis (R91). -/
def fnv64Basis : Word64 := 0xcbf29ce484222325

/-- The 32-bit fold of one byte (R92): exclusive or, then the multiplication by the prime. -/
def fnv32Fold (h : Word32) (b : Byte) : Word32 := (h ^^^ b.setWidth 32) * 0x01000193

/-- The 64-bit fold of one byte (R93). -/
def fnv64Fold (h : Word64) (b : Byte) : Word64 := (h ^^^ b.setWidth 64) * 0x00000100000001b3

/-- The 32-bit fold of a byte sequence, in order (R90). -/
def fnv32FoldAll (h : Word32) (bytes : List Byte) : Word32 := bytes.foldl fnv32Fold h

/-- The 64-bit fold of a byte sequence, in order (R90). -/
def fnv64FoldAll (h : Word64) (bytes : List Byte) : Word64 := bytes.foldl fnv64Fold h

/-- The 32-bit hash of a byte sequence (R90). -/
def fnv32 (bytes : List Byte) : Word32 := fnv32FoldAll fnv32Basis bytes

/-- The 64-bit hash of a byte sequence (R90). -/
def fnv64 (bytes : List Byte) : Word64 := fnv64FoldAll fnv64Basis bytes

/-- Both accumulators are folded by the same bytes (R21, R95). -/
def State.foldBytes (s : State) (bytes : List Byte) : State :=
  s.setHash (fnv32FoldAll s.h32 bytes) (fnv64FoldAll s.h64 bytes)

/-- `FNV.INIT` (R94). -/
def execFnvInit (s : State) : Result := .next ((s.setHash fnv32Basis fnv64Basis).ok 0 0)

/-- `FNV.BYTE imm8` (R95). -/
def execFnvByte (imm8 : Byte) (s : State) : Result :=
  if s.hv then .next ((s.foldBytes [imm8]).ok 0 0) else .next (s.raise .noHash)

/-- `FNV.INT` (R96): the eight bytes of `ARG`, least significant first. -/
def execFnvInt (s : State) : Result :=
  if s.hv then .next ((s.foldBytes (bytesOf s.arg64)).ok 0 0) else .next (s.raise .noHash)

/-- `FNV.RD32` (R97). -/
def execFnvRd32 (s : State) : Result :=
  if s.hv then .next (s.ok (zext32 s.h32) 0) else .next (s.raise .noHash)

/-- `FNV.RD64` (R98). -/
def execFnvRd64 (s : State) : Result :=
  if s.hv then .next (s.ok s.h64 0) else .next (s.raise .noHash)

end Sys2Proof.Machine
end

