-- ==== Sys2Proof/Machine/Seed.lean ====
section
/-! DEFINITION. Construction of a core from the seed hash (44_seed_construct.md): the seed-derived words, the initial
state of each algorithm, the discard rounds, and `SEED`. -/

namespace Sys2Proof.Machine

/-- `f` applied `n` times. -/
def repeated {α : Type} (f : α → α) : Nat → α → α
  | 0, a => a
  | n + 1, a => repeated f n (f a)

/-- The first `m` words of a vector of `n`. -/
def firstWords {w : Nat} (m : Nat) {n : Nat} (h : m ≤ n) (v : Vector (BitVec w) n) : Vector (BitVec w) m :=
  Vector.ofFn fun k : Fin m => v[k.val]'(Nat.lt_of_lt_of_le k.isLt h)

/-- `initial(XS128, h32)` (R153). -/
def initialXs128 (mode : SmMode) (h32 : Word32) : Xs128 :=
  let W := nz (expand32 mode h32 4)
  ⟨W[0], W[1], W[2], W[3]⟩

/-- `initial(XS7, h32)` (R154). -/
def initialXs7 (mode : SmMode) (h32 : Word32) : Xs7 := ⟨nz (expand32 mode h32 8), 0⟩

/-- The XS4096 core before its diffusion (R155): 128 table words, the Weyl counter from the next word, `i = 127`. -/
def filledXs4096 (mode : SmMode) (h32 : Word32) : Xs4096 :=
  let W := expand32 mode h32 129
  ⟨nz (firstWords 128 (by decide) W), 127, W[128]⟩

/-- `initial(XS4096, h32)` (R155): the filled table after 512 table rounds. -/
def initialXs4096 (mode : SmMode) (h32 : Word32) : Xs4096 := repeated xs4096Round 512 (filledXs4096 mode h32)

/-- `initial(XORWOW, h32)` (R156): the remap looks at the five xorshift words only. -/
def initialXorwow (mode : SmMode) (h32 : Word32) : Xorwow :=
  let W := expand32 mode h32 6
  let V := nz (firstWords 5 (by decide) W)
  ⟨V[0], V[1], V[2], V[3], V[4], W[5]⟩

/-- `initial(XO128PP, h32)` and `initial(XO128P, h32)` (R157). -/
def initialXo128 (mode : SmMode) (h32 : Word32) : Xo128 :=
  let W := nz (expand32 mode h32 4)
  ⟨W[0], W[1], W[2], W[3]⟩

/-- `initial(XORO128P, h64)` (R158). -/
def initialXoro128 (mode : SmMode) (h64 : Word64) : Xoro128 :=
  let W := nz (expand64 mode h64 2)
  ⟨W[0], W[1]⟩

/-- The initial state of each algorithm (R151, R153 to R159). -/
def initialCore (mode : SmMode) (alg : Alg) (h32 : Word32) (h64 : Word64) : Core :=
  match alg with
  | .xs128 => .w32 (.xs128 (initialXs128 mode h32))
  | .xs7 => .w32 (.xs7 (initialXs7 mode h32))
  | .xs4096 => .w32 (.xs4096 (initialXs4096 mode h32))
  | .xorwow => .w32 (.xorwow (initialXorwow mode h32))
  | .xo128pp => .w32 (.xo128pp (initialXo128 mode h32))
  | .xo128p => .w32 (.xo128p (initialXo128 mode h32))
  | .xoro128p => .w64 (.xoro128p (initialXoro128 mode h64))
  | .sm32 => .w32 (.sm32 h32)
  | .sm64 => .w64 (.sm64 h64)

/-- `DISCARD(alg)` (R152). -/
def discardRounds : Alg → Nat
  | .xs128 => 64
  | .xs7 => 256
  | .xs4096 => 0
  | .xorwow => 64
  | .xo128pp => 16
  | .xo128p => 0
  | .xoro128p => 8
  | .sm32 => 0
  | .sm64 => 0

/-- `construct(alg, h32, h64)` (R160): the initial state after the discard rounds. -/
def construct (cfg : Config) (alg : Alg) (h32 : Word32) (h64 : Word64) : Core :=
  repeated (advanceCore cfg) (discardRounds alg) (initialCore cfg.smMode alg h32 h64)

/-- `SEED alg` (R161). -/
def execSeed (alg : Alg) (s : State) : Result :=
  if s.hv then .next ((s.setCore (construct s.cfg alg s.h32 s.h64)).ok 0 0) else .next (s.raise .noHash)

end Sys2Proof.Machine
end

