-- ==== Sys2Proof/Machine/Dispatch.lean ====
section
/-! DEFINITION. The meaning of every command, one arm per constructor of `Instr`. -/

namespace Sys2Proof.Machine

def exec (i : Instr) (s : State) : Host.Outcome State Fault Refusal :=
  match i with
  | .nop => Sys2Proof.Machine.execNop s
  | .clr => Sys2Proof.Machine.execClr s
  | .stat => Sys2Proof.Machine.execStat s
  | .rdid => Sys2Proof.Machine.execRdid s
  | .fnvInit => Sys2Proof.Machine.execFnvInit s
  | .fnvByte imm8 => Sys2Proof.Machine.execFnvByte imm8 s
  | .fnvInt => Sys2Proof.Machine.execFnvInt s
  | .fnvRd32 => Sys2Proof.Machine.execFnvRd32 s
  | .fnvRd64 => Sys2Proof.Machine.execFnvRd64 s
  | .smLd32 => Sys2Proof.Machine.execSmLd32 s
  | .smLd64 => Sys2Proof.Machine.execSmLd64 s
  | .smLdh32 => Sys2Proof.Machine.execSmLdh32 s
  | .smLdh64 => Sys2Proof.Machine.execSmLdh64 s
  | .smNext32 => Sys2Proof.Machine.execSmNext32 s
  | .smNext64 => Sys2Proof.Machine.execSmNext64 s
  | .seed alg => Sys2Proof.Machine.execSeed alg s
  | .adv => Sys2Proof.Machine.execAdv s
  | .draw => Sys2Proof.Machine.execDraw s
  | .int32 => Sys2Proof.Machine.execInt32 s
  | .double => Sys2Proof.Machine.execDouble s
  | .cmpTry => Sys2Proof.Machine.execCmpTry s
  | .snap => Sys2Proof.Machine.execSnap s
  | .sbRd imm8 => Sys2Proof.Machine.execSbRd imm8 s
  | .sbClr alg => Sys2Proof.Machine.execSbClr alg s
  | .sbPush => Sys2Proof.Machine.execSbPush s
  | .restore alg => Sys2Proof.Machine.execRestore alg s
  | .sbInfo => Sys2Proof.Machine.execSbInfo s

end Sys2Proof.Machine
end

