-- ==== Sys2Proof/Machine/Port.lean ====
section
/-! DEFINITION. The command port (30_encoding.md rules R70, R77; 60_exceptions.md rules R231, R236, R237;
70_reset_and_hazards.md rules R250, R261): what the block does with the host's next input. -/

namespace Sys2Proof.Machine

/-- A command word is taken from the port and decoded; a word that is no command ends with `E_ILLEGAL` and no other
effect (R77, R231). -/
def execWord (cmd : Word32) (s : State) : Result :=
  match decode cmd with
  | .command i => exec i s
  | .illegal _ => .next (s.raise .illegal)

/-- The block meets a command: it runs it with its operand, or, in the hang, accepts nothing (R237; log entry 5). -/
def takeCommand (cmd : Word32) (arg : Word64) (s : State) : Result :=
  if s.hung then .next s else execWord cmd (s.setArg arg)

/-- One transaction: the host's next input is taken; without one the block is idle (R242; log entry 1). -/
def takeInput (s : State) : Result :=
  match s.inbox with
  | [] => .next s
  | .reset :: rest => .next (s.setInbox rest).pulseReset
  | .command cmd arg :: rest => takeCommand cmd arg (s.setInbox rest)

end Sys2Proof.Machine
end

