-- ==== Sys2Proof/Machine/Step.lean ====
section
/-! DEFINITION. The step of the machine: one transaction at the command port. The block has no program counter and fetches
nothing (10_state.md rule R24); the host's inputs stand in the state (log entry 1). -/

namespace Sys2Proof.Machine

/-- One step: the block takes the host's next input and responds to it. -/
def step (s : State) : Host.Outcome State Fault Refusal := takeInput s

/-- `s` with the command word `w` presented at the port as the next input. -/
def State.withFetchWord (s : State) (nbits w : Nat) : State := s.present (BitVec.ofNat 32 (w % 2 ^ nbits))

end Sys2Proof.Machine
end

