-- ==== Sys2Proof/Machine/Assembler.lean ====
section
/-! DEFINITION. The assembler's side of 30_encoding.md: the names of commands and algorithms and the way a command is
written (rule R82), and the pseudo-instructions as the inputs they have the host issue (rule R83). The conversion of text
to UTF-8 bytes is outside the block (00_scope.md rule R6), so the text forms take the bytes. -/

namespace Sys2Proof.Machine

/-- The mnemonic of an algorithm (R3). -/
def algName : Alg → String
  | .xs128 => "XS128"
  | .xs7 => "XS7"
  | .xs4096 => "XS4096"
  | .xorwow => "XORWOW"
  | .xo128pp => "XO128PP"
  | .xo128p => "XO128P"
  | .xoro128p => "XORO128P"
  | .sm32 => "SM32"
  | .sm64 => "SM64"

/-- A command as it is written: its mnemonic, then its operand (R82), in decimal (log entry 12). -/
def instrText : Instr → String
  | .nop => "NOP"
  | .clr => "CLR"
  | .stat => "STAT"
  | .rdid => "RDID"
  | .fnvInit => "FNV.INIT"
  | .fnvByte imm8 => "FNV.BYTE " ++ toString imm8.toNat
  | .fnvInt => "FNV.INT"
  | .fnvRd32 => "FNV.RD32"
  | .fnvRd64 => "FNV.RD64"
  | .smLd32 => "SM.LD32"
  | .smLd64 => "SM.LD64"
  | .smLdh32 => "SM.LDH32"
  | .smLdh64 => "SM.LDH64"
  | .smNext32 => "SM.NEXT32"
  | .smNext64 => "SM.NEXT64"
  | .seed alg => "SEED " ++ algName alg
  | .adv => "ADV"
  | .draw => "DRAW"
  | .int32 => "INT32"
  | .double => "DOUBLE"
  | .cmpTry => "CMP.TRY"
  | .snap => "SNAP"
  | .sbRd imm8 => "SB.RD " ++ toString imm8.toNat
  | .sbClr alg => "SB.CLR " ++ algName alg
  | .sbPush => "SB.PUSH"
  | .restore alg => "RESTORE " ++ algName alg
  | .sbInfo => "SB.INFO"

/-- A command that reads `ARG` is written with the operand after `; ARG =` (R82). -/
def lineText (i : Instr) (arg : Word64) : String := instrText i ++ " ; ARG = " ++ toString arg.toNat

/-- The host issues a command with an operand (R70, R84). -/
def issue (i : Instr) (arg : Word64) : HostInput := .command (encode i) arg

/-- The pseudo-instructions (R83). -/
inductive Pseudo where
  /-- `QUICK` -/
  | quick
  /-- `FNV.BYTES b0, …` -/
  | fnvBytes (bytes : List Byte)
  /-- `FNV.STR "text"`, given the UTF-8 bytes of the text -/
  | fnvStr (utf8 : List Byte)
  /-- `SEED.STR alg, "text"`, given the UTF-8 bytes of the text -/
  | seedStr (alg : Alg) (utf8 : List Byte)
  /-- `SEED.BYTES alg, b0, …` -/
  | seedBytes (alg : Alg) (bytes : List Byte)
  /-- `SEED.INT alg, n` -/
  | seedInt (alg : Alg) (n : Word64)
  /-- `SB.LOAD alg, w0, …` -/
  | sbLoad (alg : Alg) (words : List Word32)
  /-- `STATE.RD n`, for `n` up to 256. The spec gives no expansion for a larger `n`: its last line would be `SB.RD n-1`, and
  the literal of `SB.RD` has 8 bits (R73, R82). That a larger `n` cannot be written is the model's choice (DESIGN CHOICE,
  log entry 12). -/
  | stateRd (n : Fin 257)
deriving DecidableEq, Repr

/-- `FNV.BYTE` of each byte, in order (R83). -/
def issueBytes (bytes : List Byte) : List HostInput := bytes.map fun b => issue (.fnvByte b) 0

/-- The commands a pseudo-instruction expands to (R83). -/
def expandPseudo : Pseudo → List HostInput
  | .quick => [issue .draw 0]
  | .fnvBytes bytes => issueBytes bytes
  | .fnvStr utf8 => issueBytes utf8
  | .seedStr alg utf8 => issue .fnvInit 0 :: issueBytes utf8 ++ [issue (.seed alg) 0]
  | .seedBytes alg bytes => issue .fnvInit 0 :: issueBytes bytes ++ [issue (.seed alg) 0]
  | .seedInt alg n => [issue .fnvInit 0, issue .fnvInt n, issue (.seed alg) 0]
  | .sbLoad alg words => issue (.sbClr alg) 0 :: words.map fun w => issue .sbPush (w.setWidth 64)
  | .stateRd n => issue .snap 0 :: (List.range n.val).map fun k => issue (.sbRd (BitVec.ofNat 8 k)) 0

end Sys2Proof.Machine
end

