-- ==== Sys2Proof/Machine/Platform.lean ====
section
/-! DEFINITION. Several blocks on one platform (60_exceptions.md rule R243): `NINST` independent copies of the block, each
with its own full state and its own command port. -/

namespace Sys2Proof.Machine

/-- The platform's parameters: the configuration all its blocks are built with, and `NINST` (R7, R243). -/
structure PlatformConfig where
  block    : Config
  ninst    : Nat
  positive : 0 < ninst
deriving DecidableEq, Repr

/-- One block of the default configuration (R7). -/
def PlatformConfig.default : PlatformConfig := ⟨Config.default, 1, by decide⟩

/-- The state of the platform: the product of the blocks' states (R243). -/
structure Platform where
  blocks : List State
deriving DecidableEq, Repr

/-- A block with a given configuration, right after reset (R251: the configuration is not changed by reset). -/
def State.resetWith (cfg : Config) : State := { State.reset with cfg := cfg }

/-- The platform right after reset. That the unspecified contents of its blocks are equal is the model's choice (DESIGN
CHOICE, log entries 3 and 11). -/
def Platform.reset (p : PlatformConfig) : Platform := ⟨List.replicate p.ninst (State.resetWith p.block)⟩

/-- One transaction at the port of block `k`; it is the identity on all others (R243). -/
def Platform.step (p : Platform) (k : Fin p.blocks.length) : Host.Outcome Platform Fault Refusal :=
  match Sys2Proof.Machine.step p.blocks[k] with
  | .next s => .next ⟨p.blocks.set k.val s⟩
  | .fault r => .fault r
  | .refused r => .refused r

end Sys2Proof.Machine
end

