-- ==== Sys2Proof/Safety.lean ====
section
/-! DEFINITION. The terms the statements about the machine are made in: sequences of commands, the outputs of a core, what
a well-formed state between commands is, which states no command can tell apart (10_state.md rule R41), and the
linear-feedback words of a core (rule R43). -/

namespace Sys2Proof.Machine

/-! ### Sequences of commands -/

/-- The meanings of the commands of a list with their operands, one after the other, as the host issues them (R62, R261). A
meaning does not look at the hang (log entry 5): a statement on a list that could hang says what the hang does to it. -/
def runCommands : List (Instr × Word64) → State → Result
  | [], s => .next s
  | (i, arg) :: rest, s =>
    match exec i (s.setArg arg) with
    | .next t => runCommands rest t
    | .fault r => .fault r
    | .refused r => .refused r

/-- The response that stands after each command of a list, issued at the port one after the other; none from the hang on,
where the block accepts no command (R237, log entry 5). The list ends early at a fault or refusal. -/
def responsesOf : List (Instr × Word64) → State → List (Option Response)
  | [], _ => []
  | (i, arg) :: rest, s =>
    match takeCommand (encode i) arg s with
    | .next t => t.rsp :: responsesOf rest t
    | .fault _ => []
    | .refused _ => []

/-- The draw commands (R183, R258). -/
def isDraw : Instr → Bool
  | .adv | .draw | .int32 | .double => true
  | .nop | .clr | .stat | .rdid | .fnvInit | .fnvByte _ | .fnvInt | .fnvRd32 | .fnvRd64 => false
  | .smLd32 | .smLd64 | .smLdh32 | .smLdh64 | .smNext32 | .smNext64 | .seed _ => false
  | .cmpTry | .snap | .sbRd _ | .sbClr _ | .sbPush | .restore _ | .sbInfo => false

/-! ### The outputs of a 32-bit core -/

/-- A 32-bit core after `n` advances. -/
def coreAfter (cfg : Config) (c : Core32) : Nat → Core32
  | 0 => c
  | n + 1 => (advance32 cfg (coreAfter cfg c n)).1

/-- The `n`-th raw output of a 32-bit core, counted from 0. -/
def outputAt (cfg : Config) (c : Core32) (n : Nat) : Word32 := (advance32 cfg (coreAfter cfg c n)).2

/-- The numerator the `k`-th pair of draws composes (R178): outputs `2k` and `2k + 1`. -/
def pairAt (cfg : Config) (c : Core32) (k : Nat) : Frac53 :=
  compose53 (outputAt cfg c (2 * k)) (outputAt cfg c (2 * k + 1))

/-! ### Linear-feedback words (R43) -/

/-- The linear-feedback words of a core are all zero; a SplitMix core has none. -/
def registerZero : Core → Bool
  | .w32 (.xs128 c) => c.x == 0 && c.y == 0 && c.z == 0 && c.w == 0
  | .w32 (.xs7 c) => c.X.toList.all (· == 0)
  | .w32 (.xs4096 c) => c.X.toList.all (· == 0)
  | .w32 (.xorwow c) => c.x == 0 && c.y == 0 && c.z == 0 && c.w == 0 && c.v == 0
  | .w32 (.xo128pp c) => c.s0 == 0 && c.s1 == 0 && c.s2 == 0 && c.s3 == 0
  | .w32 (.xo128p c) => c.s0 == 0 && c.s1 == 0 && c.s2 == 0 && c.s3 == 0
  | .w64 (.xoro128p c) => c.s0 == 0 && c.s1 == 0
  | .w32 (.sm32 _) => false
  | .w64 (.sm64 _) => false

/-! ### The state between commands -/

/-- A response is well formed: any status but `OK` carries zeros (R75), and `FRES` is below the image of 1.0, so it is no
NaN, no infinity, not negative (R182). -/
def Response.wf (r : Response) : Prop :=
  (r.st ≠ .ok → r.res = 0 ∧ r.fres = 0) ∧ r.fres.toNat < 0x3ff0000000000000

/-- What every step keeps: the last response is well formed; if it was an error, `ERR` holds one (R232); `E_RETRY` is
seen only under a finite `RETRY_LIMIT` (R226); and the block hangs only in the middle of a `DOUBLE` on a 32-bit core with
no limit, without a response (R237). That the hang is a flag and leaves the core in place is the model's choice (log entry
5). -/
structure State.Inv (s : State) : Prop where
  response : ∀ r, s.rsp = some r → r.wf
  recorded : ∀ r e, s.rsp = some r → r.st = .error e → s.err ≠ none
  retry    : (s.err = some .retry ∨ ∃ r, s.rsp = some r ∧ r.st = .error .retry) → s.cfg.retryLimit ≠ .inf
  hang     : s.hung = true → s.rsp = none ∧ s.cfg.retryLimit = .inf ∧ ∃ c, s.core = some (.w32 c)

/-- Two states that no command tells apart (R41): equal in everything but the contents of registers that hold no value,
and the number of free values used. -/
structure State.Agrees (s t : State) : Prop where
  hv    : s.hv = t.hv
  h32   : s.hv = true → s.h32 = t.h32
  h64   : s.hv = true → s.h64 = t.h64
  z32v  : s.z32v = t.z32v
  z32   : s.z32v = true → s.z32 = t.z32
  z64v  : s.z64v = t.z64v
  z64   : s.z64v = true → s.z64 = t.z64
  core  : s.core = t.core
  err   : s.err = t.err
  sbTag : s.sbTag = t.sbTag
  sbLen : s.sbLen = t.sbLen
  sb    : ∀ k : Fin 130, k.val < s.sbLen.val → s.sb[k] = t.sb[k]
  cfg   : s.cfg = t.cfg
  arg   : s.arg = t.arg
  rsp   : s.rsp = t.rsp
  inbox : s.inbox = t.inbox
  hung  : s.hung = t.hung

/-! ### Which command can end with which error (R227) -/

/-- The condition under which a command ends with an error status, by the table of rule R227; `E_ILLEGAL` belongs to words
that are no command, so no command raises it. -/
def errorCondition (i : Instr) (s : State) (e : ErrCode) : Prop :=
  match i with
  | .nop | .clr | .stat | .rdid | .fnvInit | .smLd32 | .smLd64 | .sbClr _ | .sbInfo | .cmpTry => False
  | .fnvByte _ | .fnvInt | .fnvRd32 | .fnvRd64 | .smLdh32 | .smLdh64 | .seed _ => e = .noHash ∧ s.hv = false
  | .smNext32 => e = .noZ ∧ s.z32v = false
  | .smNext64 => e = .noZ ∧ s.z64v = false
  | .adv | .draw | .int32 | .snap => e = .unseeded ∧ s.core = none
  | .double =>
    (e = .unseeded ∧ s.core = none) ∨
    (e = .retry ∧ ∃ c limit positive, s.core = some (.w32 c) ∧ s.cfg.retryLimit = .finite limit positive ∧
      ∀ k, k < limit → pairAt s.cfg c k = 0)
  | .sbRd imm8 => e = .sbRange ∧ s.sbLen.val ≤ imm8.toNat
  | .sbPush => e = .sbRange ∧ s.sbLen.val = 130
  | .restore alg =>
    e = .invalidState ∧
    (s.sbTag ≠ some alg ∨ s.sbLen ≠ nwords alg ∨ (alg = .xs7 ∧ 7 < s.sb[8].toNat) ∨
      (alg = .xs4096 ∧ 127 < s.sb[128].toNat))

end Sys2Proof.Machine
end

