-- ==== Sys2Proof/Certificates/Slice0/Obligations.lean ====
section
/-! DEFINITION. The statements about the block. Each names the rule of spec/ it says in Lean. A statement whose conclusion
is `exec i s = .next …` says both that the command completes and, by its record update, what it leaves unchanged: every
field not named in the update. In a record update `err := s.err.or (some e)` is the error entry of rule R232: `ERR` takes
the code only while it holds none. -/

section

open Sys2Proof Sys2Proof.Machine

/-! ### Encoding -/

/-- Words written out from the encodings of the spec decode to the commands they stand for (R76, R84, and the table of
95_test_vectors.md section 3.8). -/
def Obligations.CommandWordsOfTheSpecDecode : Prop :=
  decode 0x00000000 = .command .nop ∧ decode 0x02000000 = .command .stat ∧
  decode 0x11000073 = .command (.fnvByte 0x73) ∧ decode 0x12000000 = .command .fnvInt ∧
  decode 0x22000000 = .command .smLdh32 ∧ decode 0x30600000 = .command (.seed .xo128p) ∧
  decode 0x30900000 = .command (.seed .sm64) ∧ decode 0x32000000 = .command .draw ∧
  decode 0x35000000 = .command .cmpTry ∧ decode 0x39000081 = .command (.sbRd 129) ∧
  decode 0x3A300000 = .command (.sbClr .xs4096) ∧ decode 0x3C400000 = .command (.restore .xorwow)

/-- Decoding and encoding are inverse on all words and all commands (R71, R76, R77, R84): no bit of a word is dropped and
every command has exactly one word. -/
def Obligations.DecodeIsTheInverseOfEncode : Prop :=
  ∀ (c : Word32) (i : Instr), decode c = .command i ↔ c = encode i

/-- The words the decoder accepts are the legal words of the tables of masks and matches (R72, R76, R77, R79, R80). -/
def Obligations.LegalWordsAreTheDecodedOnes : Prop :=
  ∀ c : Word32, legalWord c = true ↔ ∃ i, decode c = .command i

/-- R78: no word matches two rows of the opcode map. -/
def Obligations.OpcodeRowsNeverOverlap : Prop :=
  ∀ (c : Word32) (r q : OpRow), r ∈ opRows → q ∈ opRows → r.selects c = true → q.selects c = true → r = q

/-- A word that is no legal command ends with `E_ILLEGAL` and no effect but the error entry, whatever the state
(R77, R79, R231, R232). The host's input is consumed and its operand stands at the port (the model's own fields, log
entry 1). -/
def Obligations.IllegalWordEndsWithIllegal : Prop :=
  ∀ (s : State) (c : Word32) (a : Word64) (rest : List HostInput),
    s.inbox = .command c a :: rest → s.hung = false → legalWord c = false →
    step s = .next { s with inbox := rest, arg := a, err := s.err.or (some .illegal),
                            rsp := some ⟨.error .illegal, 0, 0⟩ }

/-! ### The step -/

/-- A step at a state whose next input is a command word that decodes to `i` is `exec i`, after the input is taken and its
operand stands at the port (R70, R77). -/
def Obligations.StepRunsTheDecodedCommand : Prop :=
  ∀ (s : State) (c : Word32) (a : Word64) (rest : List HostInput) (i : Instr),
    s.inbox = .command c a :: rest → s.hung = false → decode c = .command i →
    step s = exec i { s with inbox := rest, arg := a }

/-- The model's choice (log entries 1 and 5) of what a step is when no command runs: with no input the block is idle
(R242); in the hang a command is dropped without effect or response (R237). -/
def Obligations.IdleAndHungStepsChangeNothing : Prop :=
  (∀ s : State, s.inbox = [] → step s = .next s) ∧
  (∀ (s : State) (c : Word32) (a : Word64) (rest : List HostInput),
    s.inbox = .command c a :: rest → s.hung = true → step s = .next { s with inbox := rest })

/-- The reset input (R250, R251): whatever the state, the hang included, the flags, `ALG`, `ERR`, `SBTAG` and `SBLEN` are
0 after it, there is no response, and the configuration is as before. The inputs, the response register and the flag of
the hang are the model's own (log entries 1, 5, 9). -/
def Obligations.ResetInputResetsTheBlock : Prop :=
  ∀ (s : State) (rest : List HostInput), s.inbox = .reset :: rest →
    ∃ t, step s = .next t ∧ t.hv = false ∧ t.z32v = false ∧ t.z64v = false ∧ t.core = none ∧ t.err = none ∧
      t.sbTag = none ∧ t.sbLen = 0 ∧ t.statusWord = 0 ∧ t.rsp = none ∧ t.hung = false ∧ t.cfg = s.cfg ∧
      t.inbox = rest

/-- R225: every command has a next state on every state, with a response, but for the hang of a `DOUBLE` under
`RETRY_LIMIT = INF` (a flag of the model, log entry 5); and so has every step. -/
def Obligations.EveryCommandRespondsOrHangs : Prop :=
  (∀ (i : Instr) (s : State), ∃ t, exec i s = .next t ∧
    (t.rsp ≠ none ∨ (i = .double ∧ s.cfg.retryLimit = .inf ∧ t = { s with hung := true, rsp := none }))) ∧
  (∀ s : State, ∃ t, step s = .next t)

/-! ### Control commands -/

/-- R215: `NOP` is the all-zero word, responds, and changes nothing else; the word with `imm8 = 1` is illegal. -/
def Obligations.NopOnlyResponds : Prop :=
  encode .nop = 0 ∧ (∃ why, decode 0x00000001 = .illegal why) ∧
  ∀ s : State, exec .nop s = .next { s with rsp := some ⟨.ok, 0, 0⟩ }

/-- R40: the values after reset and after `CLR`. What the registers without a value hold is the model's own (log entries
3 and 4) and is not stated. -/
def Obligations.ResetAndClrLeaveTheResetValues : Prop :=
  (State.reset.hv = false ∧ State.reset.z32v = false ∧ State.reset.z64v = false ∧ State.reset.core = none ∧
    State.reset.algBits = 0 ∧ State.reset.err = none ∧ State.reset.sbTag = none ∧ State.reset.sbLen = 0 ∧
    State.reset.statusWord = 0) ∧
  ∀ s : State, ∃ t, exec .clr s = .next t ∧ t.hv = false ∧ t.z32v = false ∧ t.z64v = false ∧ t.core = none ∧
    t.algBits = 0 ∧ t.err = none ∧ t.sbTag = none ∧ t.sbLen = 0 ∧ t.statusWord = 0 ∧
    t.rsp = some ⟨.ok, 0, 0⟩ ∧ t.cfg = s.cfg ∧ t.inbox = s.inbox ∧ t.arg = s.arg

/-- `STAT` returns `HV | Z32V << 1 | Z64V << 2 | (ALG != 0) << 3 | ALG << 4 | ERR << 8 | SBTAG << 12 | SBLEN << 16` and
changes nothing (R36, R217). -/
def Obligations.StatReturnsTheStatusWord : Prop :=
  ∀ s : State, exec .stat s = .next { s with
    rsp := some ⟨.ok,
      (BitVec.ofBool s.hv).setWidth 64 ||| (BitVec.ofBool s.z32v).setWidth 64 <<< 1 |||
        (BitVec.ofBool s.z64v).setWidth 64 <<< 2 ||| (BitVec.ofBool s.core.isSome).setWidth 64 <<< 3 |||
        (algCode (s.core.map Core.alg)).setWidth 64 <<< 4 ||| (errCode s.err).setWidth 64 <<< 8 |||
        (algCode s.sbTag).setWidth 64 <<< 12 ||| (BitVec.ofNat 64 s.sbLen.val) <<< 16, 0⟩ }

/-- `RDID` returns the ID word of the configuration, on every state (R37, R218). -/
def Obligations.RdidReturnsTheIdWord : Prop :=
  ∀ s : State,
    (s.cfg.smMode = .counter → s.cfg.xoroAbc = .current →
      exec .rdid s = .next { s with rsp := some ⟨.ok, 0x1, 0⟩ }) ∧
    (s.cfg.smMode = .feedback → s.cfg.xoroAbc = .current →
      exec .rdid s = .next { s with rsp := some ⟨.ok, 0x101, 0⟩ }) ∧
    (s.cfg.smMode = .counter → s.cfg.xoroAbc = .original →
      exec .rdid s = .next { s with rsp := some ⟨.ok, 0x201, 0⟩ }) ∧
    (s.cfg.smMode = .feedback → s.cfg.xoroAbc = .original →
      exec .rdid s = .next { s with rsp := some ⟨.ok, 0x301, 0⟩ })

/-! ### The hash -/

/-- `FNV.INIT` loads the offset bases (R91, R94). -/
def Obligations.FnvInitLoadsTheOffsetBases : Prop :=
  ∀ s : State, exec .fnvInit s = .next { s with
    hv := true, h32 := 0x811c9dc5, h64 := 0xcbf29ce484222325, rsp := some ⟨.ok, 0, 0⟩ }

/-- `FNV.BYTE` folds its byte into both accumulators, exclusive or first; without a hash it is `E_NOHASH`
(R92, R93, R95). -/
def Obligations.FnvByteFoldsBothAccumulators : Prop :=
  ∀ (b : Byte) (s : State),
    (s.hv = true → exec (.fnvByte b) s = .next { s with
      h32 := (s.h32 ^^^ b.setWidth 32) * 0x01000193
      h64 := (s.h64 ^^^ b.setWidth 64) * 0x100000001b3
      rsp := some ⟨.ok, 0, 0⟩ }) ∧
    (s.hv = false → exec (.fnvByte b) s = .next { s with
      err := s.err.or (some .noHash), rsp := some ⟨.error .noHash, 0, 0⟩ })

/-- `FNV.INT` is exactly the eight `FNV.BYTE` commands of the operand's bytes, least significant first; without a hash it
is `E_NOHASH` (R54, R96). -/
def Obligations.FnvIntIsEightFnvBytes : Prop :=
  ∀ s : State,
    (s.hv = true → ∃ t, exec .fnvInt s = .next t ∧
      runCommands ((List.range 8).map fun k => (.fnvByte (s.arg.extractLsb' (8 * k) 8), s.arg)) s = .next t ∧
      t = { s with h32 := t.h32, h64 := t.h64, rsp := some ⟨.ok, 0, 0⟩ }) ∧
    (s.hv = false → exec .fnvInt s = .next { s with
      err := s.err.or (some .noHash), rsp := some ⟨.error .noHash, 0, 0⟩ })

/-- R90: after `FNV.INIT` and one `FNV.BYTE` for each byte of a sequence, the accumulators hold the fold of the bytes in
order from the offset bases. -/
def Obligations.HashIsTheFoldFromTheOffsetBasis : Prop :=
  ∀ (bytes : List Byte) (s : State),
    runCommands ((.fnvInit, s.arg) :: bytes.map fun b => (.fnvByte b, s.arg)) s = .next { s with
      hv := true
      h32 := bytes.foldl (fun h b => (h ^^^ b.setWidth 32) * 0x01000193) 0x811c9dc5
      h64 := bytes.foldl (fun h b => (h ^^^ b.setWidth 64) * 0x100000001b3) 0xcbf29ce484222325
      rsp := some ⟨.ok, 0, 0⟩ }

/-- `FNV.RD32` and `FNV.RD64` return the accumulators and change nothing; without a hash they are `E_NOHASH`
(R97, R98). -/
def Obligations.FnvReadsReturnTheAccumulators : Prop :=
  ∀ s : State,
    (s.hv = true →
      exec .fnvRd32 s = .next { s with rsp := some ⟨.ok, s.h32.setWidth 64, 0⟩ } ∧
      exec .fnvRd64 s = .next { s with rsp := some ⟨.ok, s.h64, 0⟩ }) ∧
    (s.hv = false →
      exec .fnvRd32 s = .next { s with err := s.err.or (some .noHash), rsp := some ⟨.error .noHash, 0, 0⟩ } ∧
      exec .fnvRd64 s = .next { s with err := s.err.or (some .noHash), rsp := some ⟨.error .noHash, 0, 0⟩ })

/-! ### The expander -/

/-- The four load commands of the expander: from the operand on every state, from the hash while there is one, else
`E_NOHASH` (R106 to R109). -/
def Obligations.ExpanderLoads : Prop :=
  ∀ s : State,
    exec .smLd32 s = .next { s with z32v := true, z32 := s.arg.setWidth 32, rsp := some ⟨.ok, 0, 0⟩ } ∧
    exec .smLd64 s = .next { s with z64v := true, z64 := s.arg, rsp := some ⟨.ok, 0, 0⟩ } ∧
    (s.hv = true →
      exec .smLdh32 s = .next { s with z32v := true, z32 := s.h32, rsp := some ⟨.ok, 0, 0⟩ } ∧
      exec .smLdh64 s = .next { s with z64v := true, z64 := s.h64, rsp := some ⟨.ok, 0, 0⟩ }) ∧
    (s.hv = false →
      exec .smLdh32 s = .next { s with err := s.err.or (some .noHash), rsp := some ⟨.error .noHash, 0, 0⟩ } ∧
      exec .smLdh64 s = .next { s with err := s.err.or (some .noHash), rsp := some ⟨.error .noHash, 0, 0⟩ })

/-- `SM.NEXT32` and `SM.NEXT64` return the mix of the incremented state and keep the incremented value (`COUNTER`) or the
mixed one (`FEEDBACK`); without a state they are `E_NOZ` (R100, R101, R102, R110, R111). -/
def Obligations.SmNextCommandsStepTheStreams : Prop :=
  ∀ s : State,
    (s.z32v = true →
      let c := s.z32 + 0x9e3779b9
      let m1 := (c ^^^ c >>> 16) * 0x85ebca6b
      let m2 := (m1 ^^^ m1 >>> 13) * 0xc2b2ae35
      let o := m2 ^^^ m2 >>> 16
      (s.cfg.smMode = .counter → exec .smNext32 s = .next { s with
        z32 := c, rsp := some ⟨.ok, o.setWidth 64, 0⟩ }) ∧
      (s.cfg.smMode = .feedback → exec .smNext32 s = .next { s with
        z32 := o, rsp := some ⟨.ok, o.setWidth 64, 0⟩ })) ∧
    (s.z32v = false → exec .smNext32 s = .next { s with
      err := s.err.or (some .noZ), rsp := some ⟨.error .noZ, 0, 0⟩ }) ∧
    (s.z64v = true →
      let c := s.z64 + 0x9e3779b97f4a7c15
      let m1 := (c ^^^ c >>> 30) * 0xbf58476d1ce4e5b9
      let m2 := (m1 ^^^ m1 >>> 27) * 0x94d049bb133111eb
      let o := m2 ^^^ m2 >>> 31
      (s.cfg.smMode = .counter → exec .smNext64 s = .next { s with z64 := c, rsp := some ⟨.ok, o, 0⟩ }) ∧
      (s.cfg.smMode = .feedback → exec .smNext64 s = .next { s with z64 := o, rsp := some ⟨.ok, o, 0⟩ })) ∧
    (s.z64v = false → exec .smNext64 s = .next { s with
      err := s.err.or (some .noZ), rsp := some ⟨.error .noZ, 0, 0⟩ })

/-- R112: after `SM.LDH32`, the response to `SM.NEXT32` number `n` (from 0) is word `n` of the expansion of `H32`, and
likewise with `SM.LDH64`, `SM.NEXT64` and `H64`. -/
def Obligations.NextCommandsReadOutTheExpansion : Prop :=
  ∀ (s : State) (n : Nat), s.hv = true →
    (∃ t, runCommands ((.smLdh32, s.arg) :: List.replicate (n + 1) (.smNext32, s.arg)) s = .next t ∧
      t.rsp = some ⟨.ok, ((expand32 s.cfg.smMode s.h32 (n + 1))[n]).setWidth 64, 0⟩ ∧
      t = { s with z32v := true, z32 := expand32State s.cfg.smMode s.h32 (n + 1), rsp := t.rsp }) ∧
    (∃ t, runCommands ((.smLdh64, s.arg) :: List.replicate (n + 1) (.smNext64, s.arg)) s = .next t ∧
      t.rsp = some ⟨.ok, (expand64 s.cfg.smMode s.h64 (n + 1))[n], 0⟩ ∧
      t = { s with z64v := true, z64 := expand64State s.cfg.smMode s.h64 (n + 1), rsp := t.rsp })

/-- R105: the mixes are bijections that fix 0; a step outputs 0 exactly from one state; two successive outputs are never
both 0, whatever `SM_MODE`; so the non-zero remap never changes an expansion of two or more words. -/
def Obligations.TwoSuccessiveOutputsAreNeverBothZero : Prop :=
  ((∀ x y, mix32 x = mix32 y → x = y) ∧ (∀ y, ∃ x, mix32 x = y) ∧ (∀ x y, mix64 x = mix64 y → x = y) ∧
    (∀ y, ∃ x, mix64 x = y) ∧ mix32 0 = 0 ∧ mix64 0 = 0) ∧
  (∀ z, sm32Out z = 0 ↔ z = 0x61c88647) ∧ (∀ z, sm64Out z = 0 ↔ z = 0x61c8864680b583eb) ∧
  (∀ mode z, ¬(sm32Out z = 0 ∧ sm32Out (sm32Next mode z) = 0)) ∧
  (∀ mode z, ¬(sm64Out z = 0 ∧ sm64Out (sm64Next mode z) = 0)) ∧
  (∀ mode z n, 2 ≤ n → nz (expand32 mode z n) = expand32 mode z n) ∧
  (∀ mode z n, 2 ≤ n → nz (expand64 mode z n) = expand64 mode z n)

/-! ### The cores -/

/-- `ADV` on an XS128 and on an XORWOW core (R121, R125, R171). -/
def Obligations.AdvOnTheXorshiftRegisters : Prop :=
  ∀ s : State,
    (∀ x y z w, s.core = some (.w32 (.xs128 ⟨x, y, z, w⟩)) →
      let t := x ^^^ x <<< 11
      let w' := w ^^^ w >>> 19 ^^^ t ^^^ t >>> 8
      exec .adv s = .next { s with
        core := some (.w32 (.xs128 ⟨y, z, w, w'⟩)), rsp := some ⟨.ok, w'.setWidth 64, 0⟩ }) ∧
    (∀ x y z w v d, s.core = some (.w32 (.xorwow ⟨x, y, z, w, v, d⟩)) →
      let t := x ^^^ x >>> 2
      let v' := (v ^^^ v <<< 4) ^^^ (t ^^^ t <<< 1)
      let d' := d + 362437
      exec .adv s = .next { s with
        core := some (.w32 (.xorwow ⟨y, z, w, v, v', d'⟩)), rsp := some ⟨.ok, (d' + v').setWidth 64, 0⟩ })

/-- `ADV` on an XS7 core, its taps and its write named by the index modulo 8 (R52, R122, R171). -/
def Obligations.AdvOnTheXs7Table : Prop :=
  ∀ (s : State) (X : Vector Word32 8) (i : BitVec 3), s.core = some (.w32 (.xs7 ⟨X, i⟩)) →
    let tap (k : Nat) : Word32 := X[(i.toNat + k) % 8]'(Nat.mod_lt _ (by decide))
    let p0 := tap 0 ^^^ tap 0 >>> 7
    let p7 := tap 7 ^^^ tap 7 <<< 13
    let v := p0 ^^^ p0 <<< 24 ^^^ tap 1 ^^^ tap 1 >>> 10 ^^^ tap 3 ^^^ tap 3 >>> 3 ^^^ tap 4 ^^^ tap 4 <<< 7 ^^^
      p7 ^^^ p7 <<< 9
    ∃ X' : Vector Word32 8, exec .adv s = .next { s with
        core := some (.w32 (.xs7 ⟨X', BitVec.ofNat 3 ((i.toNat + 1) % 8)⟩)), rsp := some ⟨.ok, v.setWidth 64, 0⟩ } ∧
      ∀ (k : Nat) (h : k < 8), X'[k] = if k = i.toNat then v else X[k]

/-- `ADV` on an XS4096 core, its taps and its write named by the index modulo 128 (R52, R123, R124, R171). -/
def Obligations.AdvOnTheXs4096Table : Prop :=
  ∀ (s : State) (X : Vector Word32 128) (i : BitVec 7) (w : Word32), s.core = some (.w32 (.xs4096 ⟨X, i, w⟩)) →
    let tap (k : Nat) : Word32 := X[(i.toNat + k) % 128]'(Nat.mod_lt _ (by decide))
    let v := tap 34 ^^^ tap 34 <<< 13
    let t := tap 1 ^^^ tap 1 <<< 17
    let r := (v ^^^ v >>> 15) ^^^ (t ^^^ t >>> 12)
    let w' := w + 0x61c88647
    ∃ X' : Vector Word32 128, exec .adv s = .next { s with
        core := some (.w32 (.xs4096 ⟨X', BitVec.ofNat 7 ((i.toNat + 1) % 128), w'⟩))
        rsp := some ⟨.ok, (r + (w' ^^^ w' >>> 16)).setWidth 64, 0⟩ } ∧
      ∀ (k : Nat) (h : k < 128), X'[k] = if k = (i.toNat + 1) % 128 then r else X[k]

/-- `ADV` on the xoshiro128 cores, by the rule's closed form of the update, and on an XORO128P core, for both triples of
`XORO_ABC` (R136, R137, R138, R140, R171). -/
def Obligations.AdvOnTheXoshiroAndXoroshiroCores : Prop :=
  (∀ (s : State) (a b c d : Word32),
    let s0 := a ^^^ d ^^^ b
    let s1 := b ^^^ c ^^^ a
    let s2 := c ^^^ a ^^^ b <<< 9
    let s3 := (d ^^^ b).rotateLeft 11
    (s.core = some (.w32 (.xo128pp ⟨a, b, c, d⟩)) → exec .adv s = .next { s with
      core := some (.w32 (.xo128pp ⟨s0, s1, s2, s3⟩))
      rsp := some ⟨.ok, ((a + d).rotateLeft 7 + a).setWidth 64, 0⟩ }) ∧
    (s.core = some (.w32 (.xo128p ⟨a, b, c, d⟩)) → exec .adv s = .next { s with
      core := some (.w32 (.xo128p ⟨s0, s1, s2, s3⟩)), rsp := some ⟨.ok, (a + d).setWidth 64, 0⟩ })) ∧
  (∀ (s : State) (s0 s1 : Word64), s.core = some (.w64 (.xoro128p ⟨s0, s1⟩)) →
    (s.cfg.xoroAbc = .current → exec .adv s = .next { s with
      core := some (.w64 (.xoro128p ⟨s0.rotateLeft 24 ^^^ (s1 ^^^ s0) ^^^ (s1 ^^^ s0) <<< 16,
        (s1 ^^^ s0).rotateLeft 37⟩))
      rsp := some ⟨.ok, s0 + s1, 0⟩ }) ∧
    (s.cfg.xoroAbc = .original → exec .adv s = .next { s with
      core := some (.w64 (.xoro128p ⟨s0.rotateLeft 55 ^^^ (s1 ^^^ s0) ^^^ (s1 ^^^ s0) <<< 14,
        (s1 ^^^ s0).rotateLeft 36⟩))
      rsp := some ⟨.ok, s0 + s1, 0⟩ }))

/-- R159: a core SM32 or SM64 starts from the hash itself, and the response to `ADV` number `n` (from 0) after its `SEED`
is word `n` of the expansion of the hash. -/
def Obligations.SeededSplitMixCoresGiveTheExpansion : Prop :=
  (∀ mode h32 h64, initialCore mode .sm32 h32 h64 = .w32 (.sm32 h32) ∧
    initialCore mode .sm64 h32 h64 = .w64 (.sm64 h64)) ∧
  ∀ (s : State) (n : Nat), s.hv = true →
    (∃ t, runCommands ((.seed .sm32, s.arg) :: List.replicate (n + 1) (.adv, s.arg)) s = .next t ∧
      t.rsp = some ⟨.ok, ((expand32 s.cfg.smMode s.h32 (n + 1))[n]).setWidth 64, 0⟩) ∧
    (∃ t, runCommands ((.seed .sm64, s.arg) :: List.replicate (n + 1) (.adv, s.arg)) s = .next t ∧
      t.rsp = some ⟨.ok, (expand64 s.cfg.smMode s.h64 (n + 1))[n], 0⟩)

/-- R139: XO128PP and XO128P started from the same four words pass through the same sequence of states. The outputs differ
by rule R137 and rule R138. -/
def Obligations.XoshiroCoresPassThroughTheSameStates : Prop :=
  ∀ (cfg : Config) (c : Xo128) (n : Nat), ∃ d : Xo128,
    coreAfter cfg (.xo128pp c) n = .xo128pp d ∧ coreAfter cfg (.xo128p c) n = .xo128p d ∧
    outputAt cfg (.xo128pp c) n = (d.s0 + d.s3).rotateLeft 7 + d.s0 ∧ outputAt cfg (.xo128p c) n = d.s0 + d.s3

/-- An advance leaves the linear-feedback words all zero exactly when they were all zero: that zero stays zero is R43, that
nothing else becomes zero is R126 for the xorshift cores and, for the xoshiro and xoroshiro cores, the invertibility that R163
states of the discard rounds, here of the updates of R136 and R140. -/
def Obligations.OnlyAZeroRegisterAdvancesToZero : Prop :=
  ∀ (cfg : Config) (c : Core), registerZero (advanceCore cfg c) = registerZero c

/-! ### Construction -/

/-- `SEED alg` builds the core of the hash and changes nothing else; the core depends on the configuration, the algorithm
and the hash alone; without a hash it is `E_NOHASH` (R161, R162). -/
def Obligations.SeedBuildsTheCoreOfTheHash : Prop :=
  ∀ (alg : Alg) (s : State),
    (s.hv = true → (construct s.cfg alg s.h32 s.h64).alg = alg ∧ exec (.seed alg) s = .next { s with
      core := some (construct s.cfg alg s.h32 s.h64), rsp := some ⟨.ok, 0, 0⟩ }) ∧
    (s.hv = false → exec (.seed alg) s = .next { s with
      err := s.err.or (some .noHash), rsp := some ⟨.error .noHash, 0, 0⟩ })

/-- What construction leaves of every algorithm (R151 to R160): the seed-derived words in their places and through the remap,
advanced 64 times for XS128 and XORWOW, 256 for XS7, 16 for XO128PP, 8 for XORO128P and not at all for XO128P, SM32 and
SM64; for XS4096 512 table rounds of R123, the Weyl counter held. So the Weyl counter of XORWOW is the sixth word of the
expansion after 64 steps, that of XS4096 is the 129th word, the index of XS4096 is 127 and that of XS7 is 0. -/
def Obligations.ConstructedCoresStandWhereTheRulesSay : Prop :=
  ∀ (cfg : Config) (h32 : Word32) (h64 : Word64),
    let advanced32 (n : Nat) (c : Core32) : Core := .w32 ((fun c => (advance32 cfg c).1)^[n] c)
    let advanced64 (n : Nat) (c : Core64) : Core := .w64 ((fun c => (advance64 cfg c).1)^[n] c)
    let W4 := nz (expand32 cfg.smMode h32 4)
    let W6 := expand32 cfg.smMode h32 6
    let V5 := nz #v[W6[0], W6[1], W6[2], W6[3], W6[4]]
    let W129 := expand32 cfg.smMode h32 129
    let U2 := nz (expand64 cfg.smMode h64 2)
    let tap (c : Xs4096) (k : Nat) : Word32 := c.X[(c.i.toNat + k) % 128]'(Nat.mod_lt _ (by decide))
    let left (z : Word32) : Word32 := z ^^^ z <<< 13
    let right (z : Word32) : Word32 := z ^^^ z <<< 17
    let mixed (v t : Word32) : Word32 := (left v ^^^ left v >>> 15) ^^^ (right t ^^^ right t >>> 12)
    let round (c : Xs4096) : Xs4096 :=
      ⟨c.X.set ((c.i.toNat + 1) % 128) (mixed (tap c 34) (tap c 1)) (Nat.mod_lt _ (by decide)),
        BitVec.ofNat 7 ((c.i.toNat + 1) % 128), c.w⟩
    construct cfg .xs128 h32 h64 = advanced32 64 (.xs128 ⟨W4[0], W4[1], W4[2], W4[3]⟩) ∧
    construct cfg .xs7 h32 h64 = advanced32 256 (.xs7 ⟨nz (expand32 cfg.smMode h32 8), 0⟩) ∧
    construct cfg .xs4096 h32 h64 =
      .w32 (.xs4096 (round^[512] ⟨nz (Vector.ofFn fun k : Fin 128 => W129[k.val]), 127, W129[128]⟩)) ∧
    construct cfg .xorwow h32 h64 = advanced32 64 (.xorwow ⟨V5[0], V5[1], V5[2], V5[3], V5[4], W6[5]⟩) ∧
    construct cfg .xo128pp h32 h64 = advanced32 16 (.xo128pp ⟨W4[0], W4[1], W4[2], W4[3]⟩) ∧
    construct cfg .xo128p h32 h64 = .w32 (.xo128p ⟨W4[0], W4[1], W4[2], W4[3]⟩) ∧
    construct cfg .xoro128p h32 h64 = advanced64 8 (.xoro128p ⟨U2[0], U2[1]⟩) ∧
    construct cfg .sm32 h32 h64 = .w32 (.sm32 h32) ∧
    construct cfg .sm64 h32 h64 = .w64 (.sm64 h64) ∧
    (∃ c, construct cfg .xorwow h32 h64 = .w32 (.xorwow c) ∧ c.d = W6[5] + 64 * 362437) ∧
    (∃ c, construct cfg .xs4096 h32 h64 = .w32 (.xs4096 c) ∧ c.w = W129[128] ∧ c.i = 127) ∧
    (∃ c, construct cfg .xs7 h32 h64 = .w32 (.xs7 c) ∧ c.i = 0)

/-- R163: `SEED` never leaves the linear-feedback words of a core all zero. -/
def Obligations.SeedNeverLeavesAZeroRegister : Prop :=
  ∀ (alg : Alg) (s : State), s.hv = true →
    ∃ t c, exec (.seed alg) s = .next t ∧ t.core = some c ∧ c.alg = alg ∧ registerZero c = false

/-! ### Draws -/

/-- `DRAW` returns the raw output as a fraction of its width and the binary64 image of its top 53 bits; without a core it
is `E_UNSEEDED` (R172). -/
def Obligations.DrawReturnsTheFraction : Prop :=
  ∀ s : State,
    (∀ c, s.core = some (.w32 c) → exec .draw s = .next { s with
      core := some (.w32 (advance32 s.cfg c).1)
      rsp := some ⟨.ok, (advance32 s.cfg c).2.setWidth 64,
        f64OfFrac53 ((advance32 s.cfg c).2.setWidth 53 <<< 21)⟩ }) ∧
    (∀ c, s.core = some (.w64 c) → exec .draw s = .next { s with
      core := some (.w64 (advance64 s.cfg c).1)
      rsp := some ⟨.ok, (advance64 s.cfg c).2, f64OfFrac53 (((advance64 s.cfg c).2 >>> 11).setWidth 53)⟩ }) ∧
    (s.core = none → exec .draw s = .next { s with
      err := s.err.or (some .unseeded), rsp := some ⟨.error .unseeded, 0, 0⟩ })

/-- `INT32` returns the raw output, of a 64-bit one the upper half, as the 64-bit image of a signed 32-bit integer; without
a core it is `E_UNSEEDED` (R174). -/
def Obligations.Int32ReturnsTheSignedWord : Prop :=
  ∀ s : State,
    (∀ c, s.core = some (.w32 c) → ∃ r : Word64, r.toInt = (advance32 s.cfg c).2.toInt ∧
      exec .int32 s = .next { s with core := some (.w32 (advance32 s.cfg c).1), rsp := some ⟨.ok, r, 0⟩ }) ∧
    (∀ c, s.core = some (.w64 c) → ∃ r : Word64, r.toInt = (((advance64 s.cfg c).2 >>> 32).setWidth 32).toInt ∧
      exec .int32 s = .next { s with core := some (.w64 (advance64 s.cfg c).1), rsp := some ⟨.ok, r, 0⟩ }) ∧
    (s.core = none → exec .int32 s = .next { s with
      err := s.err.or (some .unseeded), rsp := some ⟨.error .unseeded, 0, 0⟩ })

/-- `ADV` returns the raw output zero-extended and advances the core once, whatever its algorithm; without a core it is
`E_UNSEEDED` (R171). -/
def Obligations.AdvReturnsTheRawOutput : Prop :=
  ∀ s : State,
    (∀ c, s.core = some (.w32 c) → exec .adv s = .next { s with
      core := some (.w32 (advance32 s.cfg c).1), rsp := some ⟨.ok, (advance32 s.cfg c).2.setWidth 64, 0⟩ }) ∧
    (∀ c, s.core = some (.w64 c) → exec .adv s = .next { s with
      core := some (.w64 (advance64 s.cfg c).1), rsp := some ⟨.ok, (advance64 s.cfg c).2, 0⟩ }) ∧
    (s.core = none → exec .adv s = .next { s with
      err := s.err.or (some .unseeded), rsp := some ⟨.error .unseeded, 0, 0⟩ })

/-- `DOUBLE` on a 64-bit core takes the top 53 bits of one raw output, 0 included; without a core it is `E_UNSEEDED`
(R179). -/
def Obligations.DoubleOnA64BitCoreIsOneAdvance : Prop :=
  ∀ s : State,
    (∀ c, s.core = some (.w64 c) → exec .double s = .next { s with
      core := some (.w64 (advance64 s.cfg c).1)
      rsp := some ⟨.ok, (advance64 s.cfg c).2 >>> 11, f64OfFrac53 (((advance64 s.cfg c).2 >>> 11).setWidth 53)⟩ }) ∧
    (s.core = none → exec .double s = .next { s with
      err := s.err.or (some .unseeded), rsp := some ⟨.error .unseeded, 0, 0⟩ })

/-- `CMP.TRY` composes the words of its operand, `S_REJECT` for zero, and reads and writes no other state
(R176, R181, R229). -/
def Obligations.CmpTryComposesOrRejects : Prop :=
  ∀ s : State, ∃ n : Frac53, n.toNat = s.arg.toNat / 2 ^ 43 * 2 ^ 32 + s.arg.toNat % 2 ^ 32 ∧
    (n = 0 → exec .cmpTry s = .next { s with rsp := some ⟨.reject, 0, 0⟩ }) ∧
    (n ≠ 0 → exec .cmpTry s = .next { s with rsp := some ⟨.ok, n.setWidth 64, f64OfFrac53 n⟩ })

/-- R176 and the case of zero of R177: the composed numerator is `floor(a / 2^11) * 2^32 + b`; it is zero exactly when
`a < 2^11` and `b = 0`; the low 11 bits of `a` are never used. -/
def Obligations.ComposedValueIsZeroExactlyWhen : Prop :=
  (∀ a b : Word32, (compose53 a b).toNat = a.toNat / 2 ^ 11 * 2 ^ 32 + b.toNat) ∧
  (∀ a b : Word32, compose53 a b = 0 ↔ a.toNat < 2 ^ 11 ∧ b = 0) ∧
  (∀ a a' b : Word32, a.toNat / 2 ^ 11 = a'.toNat / 2 ^ 11 → compose53 a b = compose53 a' b)

/-- R175: the binary64 pattern has the value `N / 2^53` exactly, `(2^52 + f) * 2^(e - 1023 - 52)` for a biased exponent
`e` of a normal number: sign 0, never an infinity, a NaN or a subnormal; and 0 is the positive zero. -/
def Obligations.BinaryImageHasExactlyTheValue : Prop :=
  f64OfFrac53 0 = 0 ∧
  ∀ n : Frac53, n ≠ 0 →
    let e := ((f64OfFrac53 n).extractLsb' 52 11).toNat
    let f := ((f64OfFrac53 n).extractLsb' 0 52).toNat
    (f64OfFrac53 n).msb = false ∧ 1 ≤ e ∧ e ≤ 1022 ∧ (2 ^ 52 + f) * 2 ^ e = n.toNat * 2 ^ 1022

/-- R178: `DOUBLE` on a 32-bit core responds with the first pair of outputs that does not compose to zero, after
`2 * (r + 1)` advances where `r` pairs were rejected, when no limit stops it before. -/
def Obligations.DoubleRespondsWithTheFirstAcceptedPair : Prop :=
  ∀ (s : State) (c : Core32) (r : Nat), s.core = some (.w32 c) →
    (∀ k, k < r → pairAt s.cfg c k = 0) → pairAt s.cfg c r ≠ 0 →
    (s.cfg.retryLimit = .inf ∨ ∃ limit positive, s.cfg.retryLimit = .finite limit positive ∧ r < limit) →
    exec .double s = .next { s with
      core := some (.w32 (coreAfter s.cfg c (2 * (r + 1))))
      rsp := some ⟨.ok, (pairAt s.cfg c r).setWidth 64, f64OfFrac53 (pairAt s.cfg c r)⟩ }

/-- R180, R237: with `RETRY_LIMIT = INF` a `DOUBLE` on a 32-bit core hangs exactly when every pair the core will ever
yield composes to zero. That the hang is a flag of the state is the model's choice (log entry 5). -/
def Obligations.DoubleHangsExactlyWhenEveryPairIsRejected : Prop :=
  ∀ (s : State) (c : Core32), s.core = some (.w32 c) → s.cfg.retryLimit = .inf →
    (exec .double s = .next { s with hung := true, rsp := none } ↔ ∀ k, pairAt s.cfg c k = 0)

/-- R178, R180, R230: with a finite `RETRY_LIMIT` of `L`, after `L` rejected pairs `DOUBLE` ends with `E_RETRY`, the core
having advanced `2L` times and nothing else but `ERR` changed. -/
def Obligations.DoubleGivesUpAtTheRetryLimit : Prop :=
  ∀ (s : State) (c : Core32) (limit : Nat) (positive : 0 < limit), s.core = some (.w32 c) →
    s.cfg.retryLimit = .finite limit positive → (∀ k, k < limit → pairAt s.cfg c k = 0) →
    exec .double s = .next { s with
      core := some (.w32 (coreAfter s.cfg c (2 * limit)))
      err := s.err.or (some .retry), rsp := some ⟨.error .retry, 0, 0⟩ }

/-- R207 and the last sentence of R237: an XS128, XS7, XO128PP or XO128P core whose linear-feedback words are all zero
outputs 0 for ever, and a `DOUBLE` on it hangs when there is no limit. The flag of the hang is the model's own (log entry
5). -/
def Obligations.ZeroCoresOutputZeroForEverAndHangDouble : Prop :=
  ∀ (s : State) (c : Core32), s.core = some (.w32 c) → registerZero (.w32 c) = true →
    (c.alg = .xs128 ∨ c.alg = .xs7 ∨ c.alg = .xo128pp ∨ c.alg = .xo128p) →
    (∀ n, outputAt s.cfg c n = 0) ∧
    (s.cfg.retryLimit = .inf → exec .double s = .next { s with hung := true, rsp := none })

/-- R182: what a successful draw returns lies in its range, and no `FRES` is negative, an infinity or a NaN; on a 64-bit
core `DOUBLE` and `DRAW` give the same `FRES`. -/
def Obligations.DrawsStayInTheirRanges : Prop :=
  (∀ (i : Instr) (s t : State) (r f : Word64), exec i s = .next t → t.rsp = some ⟨.ok, r, f⟩ →
    f.toNat < 0x3ff0000000000000 ∧
    (i = .draw → ∀ c, s.core = some (.w32 c) → r.toNat < 2 ^ 32) ∧
    (i = .double → ∀ c, s.core = some (.w32 c) → 1 ≤ r.toNat ∧ r.toNat < 2 ^ 53) ∧
    (i = .double → ∀ c, s.core = some (.w64 c) → r.toNat < 2 ^ 53) ∧
    (i = .int32 → -2 ^ 31 ≤ r.toInt ∧ r.toInt ≤ 2 ^ 31 - 1)) ∧
  (∀ (s : State) (c : Core64), s.core = some (.w64 c) → ∃ t u r q f,
    exec .draw s = .next t ∧ exec .double s = .next u ∧ t.rsp = some ⟨.ok, r, f⟩ ∧ u.rsp = some ⟨.ok, q, f⟩)

/-! ### Errors -/

/-- R227: which command ends with which error status, and when; `E_ILLEGAL` comes from the words that are no command and
from no command; `S_REJECT` comes from `CMP.TRY` alone, when it composes zero. -/
def Obligations.ErrorStatusesAreThoseOfTheTable : Prop :=
  (∀ (i : Instr) (s t : State), exec i s = .next t →
    (∀ e, (∃ r f, t.rsp = some ⟨.error e, r, f⟩) ↔ errorCondition i s e) ∧
    ((∃ r f, t.rsp = some ⟨.reject, r, f⟩) ↔
      i = .cmpTry ∧ compose53 (s.arg.extractLsb' 32 32) (s.arg.extractLsb' 0 32) = 0)) ∧
  (∀ (cmd : Word32) (s t : State), execWord cmd s = .next t →
    ((∃ r f, t.rsp = some ⟨.error .illegal, r, f⟩) ↔ legalWord cmd = false))

/-- R232: when a command word ends with an error status, `ERR` takes the code if it held none, the response carries the
code and zeros, and nothing else changes but `CORE` under `E_RETRY`. -/
def Obligations.ErrorEntryRecordsTheCodeAndNothingElse : Prop :=
  ∀ (cmd : Word32) (s t : State) (e : ErrCode) (r f : Word64), execWord cmd s = .next t →
    t.rsp = some ⟨.error e, r, f⟩ →
    t = { s with err := (if s.err = none then some e else s.err), rsp := some ⟨.error e, 0, 0⟩,
                 core := (if e = .retry then t.core else s.core) }

/-- R34: `ERR` records the status of the first command that ended in an error; once set it changes only at the reset input
or `CLR`, the word `0x01000000`. -/
def Obligations.FirstErrorIsSticky : Prop :=
  (∀ (cmd : Word32) (s t : State) (e : ErrCode) (r f : Word64), s.err = none → execWord cmd s = .next t →
    t.rsp = some ⟨.error e, r, f⟩ → t.err = some e) ∧
  (∀ (s t : State) (e : ErrCode), s.err = some e → step s = .next t →
    t.err = some e ∨
    (t.err = none ∧ ((∃ rest, s.inbox = .reset :: rest) ∨ ∃ a rest, s.inbox = .command 0x01000000 a :: rest)))

/-! ### Snapshots -/

/-- The word layout of the snapshots (R55, R196, R197): an index takes one word, zero-extended, a 64-bit word takes two,
the low half first. -/
def Obligations.SnapshotWordLayout : Prop :=
  (∀ x y z w, snapWords (.w32 (.xs128 ⟨x, y, z, w⟩)) = [x, y, z, w]) ∧
  (∀ (X : Vector Word32 8) (i : BitVec 3), snapWords (.w32 (.xs7 ⟨X, i⟩)) = X.toList ++ [BitVec.ofNat 32 i.toNat]) ∧
  (∀ (X : Vector Word32 128) (i : BitVec 7) (w : Word32),
    snapWords (.w32 (.xs4096 ⟨X, i, w⟩)) = X.toList ++ [BitVec.ofNat 32 i.toNat, w]) ∧
  (∀ x y z w v d, snapWords (.w32 (.xorwow ⟨x, y, z, w, v, d⟩)) = [x, y, z, w, v, d]) ∧
  (∀ a b c d, snapWords (.w32 (.xo128pp ⟨a, b, c, d⟩)) = [a, b, c, d]) ∧
  (∀ a b c d, snapWords (.w32 (.xo128p ⟨a, b, c, d⟩)) = [a, b, c, d]) ∧
  (∀ a b : Word64, snapWords (.w64 (.xoro128p ⟨a, b⟩)) =
    [a.setWidth 32, (a >>> 32).setWidth 32, b.setWidth 32, (b >>> 32).setWidth 32]) ∧
  (∀ z, snapWords (.w32 (.sm32 z)) = [z]) ∧
  (∀ z : Word64, snapWords (.w64 (.sm64 z)) = [z.setWidth 32, (z >>> 32).setWidth 32])

/-- `SNAP` puts the words of the core at the start of the buffer, with their tag and number, and leaves the core and every
other word of the buffer as they were; without a core it is `E_UNSEEDED` (R61, R197, R199). That the words at index
`NWORDS` and above stay is the model's choice (log entry 8): R199 says that the previous contents are lost and that these
words are unreadable. -/
def Obligations.SnapCopiesTheCoreIntoTheBuffer : Prop :=
  ∀ s : State,
    (∀ c, s.core = some c → ∃ sb : Vector Word32 130,
      exec .snap s = .next { s with
        sbTag := some c.alg, sbLen := nwords c.alg, sb := sb, rsp := some ⟨.ok, 0, 0⟩ } ∧
      (snapWords c).length = (nwords c.alg).val ∧
      (∀ (k : Nat) (h : k < (snapWords c).length) (h' : k < 130), sb[k] = (snapWords c)[k]) ∧
      (∀ (k : Nat) (h' : k < 130), (snapWords c).length ≤ k → sb[k] = s.sb[k])) ∧
    (s.core = none → exec .snap s = .next { s with
      err := s.err.or (some .unseeded), rsp := some ⟨.error .unseeded, 0, 0⟩ })

/-- The buffer's access commands (R200 to R203): `SB.RD` reads exactly the indices below `SBLEN`; `SB.CLR` empties the
buffer and tags it; `SB.PUSH` appends the low word of its operand unless 130 words are held; `SB.INFO` returns the tag and
the length. -/
def Obligations.BufferCommandsReadAndAppend : Prop :=
  ∀ s : State,
    (∀ (b : Byte) (h : b.toNat < 130), b.toNat < s.sbLen.val →
      exec (.sbRd b) s = .next { s with rsp := some ⟨.ok, (s.sb[b.toNat]).setWidth 64, 0⟩ }) ∧
    (∀ b : Byte, s.sbLen.val ≤ b.toNat → exec (.sbRd b) s = .next { s with
      err := s.err.or (some .sbRange), rsp := some ⟨.error .sbRange, 0, 0⟩ }) ∧
    (∀ alg, exec (.sbClr alg) s = .next { s with sbTag := some alg, sbLen := 0, rsp := some ⟨.ok, 0, 0⟩ }) ∧
    (s.sbLen.val < 130 → ∃ (n : Fin 131) (sb : Vector Word32 130), n.val = s.sbLen.val + 1 ∧
      exec .sbPush s = .next { s with sbLen := n, sb := sb, rsp := some ⟨.ok, 0, 0⟩ } ∧
      ∀ (k : Nat) (h : k < 130), sb[k] = if k = s.sbLen.val then s.arg.setWidth 32 else s.sb[k]) ∧
    (s.sbLen.val = 130 → exec .sbPush s = .next { s with
      err := s.err.or (some .sbRange), rsp := some ⟨.error .sbRange, 0, 0⟩ }) ∧
    exec .sbInfo s = .next { s with
      rsp := some ⟨.ok, (algCode s.sbTag).setWidth 64 ||| BitVec.ofNat 64 s.sbLen.val <<< 8, 0⟩ }

/-- `RESTORE alg` takes the buffer over as the core exactly when its tag is `alg`, its length is `NWORDS(alg)` and its
index word is in range, and else is `E_INVALID_STATE` with the core as it was (R196, R198, R204). -/
def Obligations.RestoreTakesTheRightShapeOnly : Prop :=
  ∀ (alg : Alg) (s : State),
    ((s.sbTag = some alg ∧ s.sbLen = nwords alg ∧ (alg = .xs7 → s.sb[8].toNat ≤ 7) ∧
        (alg = .xs4096 → s.sb[128].toNat ≤ 127)) →
      ∃ c, exec (.restore alg) s = .next { s with core := some c, rsp := some ⟨.ok, 0, 0⟩ } ∧ c.alg = alg ∧
        ∀ (k : Nat) (h : k < (snapWords c).length) (h' : k < 130), (snapWords c)[k] = s.sb[k]) ∧
    (¬(s.sbTag = some alg ∧ s.sbLen = nwords alg ∧ (alg = .xs7 → s.sb[8].toNat ≤ 7) ∧
        (alg = .xs4096 → s.sb[128].toNat ≤ 127)) →
      exec (.restore alg) s = .next { s with
        err := s.err.or (some .invalidState), rsp := some ⟨.error .invalidState, 0, 0⟩ })

/-- R205 on the words: restoring the words of a core gives the core, and a restored core has the words it was restored
from. -/
def Obligations.RestoreWordsInvertsSnapWords : Prop :=
  (∀ (c : Core) (sb : Vector Word32 130),
    restoreWords c.alg (some c.alg) (nwords c.alg) (writeWords sb 0 (snapWords c)) = some c) ∧
  (∀ (alg : Alg) (tag : Option Alg) (len : Fin 131) (L : Vector Word32 130) (c : Core),
    restoreWords alg tag len L = some c → (snapWords c).length = len.val ∧
      ∀ (k : Nat) (h : k < (snapWords c).length) (h' : k < 130), (snapWords c)[k] = L[k])

/-- R205 on one block: after `SNAP` and any number of draws, `RESTORE` puts the core back where it was at the `SNAP`, and
the draws that follow repeat, response for response, those that follow the `SNAP`. The block is not in the hang, and none
of the draws before the `RESTORE` hangs, since R237 lets no `RESTORE` run then; a draw after it may hang, and then hangs
after the `SNAP` too, with no response to any later draw (the form of the hang is the model's choice, log entry 5). -/
def Obligations.RestoreAfterSnapRepeatsTheDraws : Prop :=
  ∀ (s t t' : State) (c : Core) (draws : List (Instr × Word64)), s.core = some c → s.hung = false →
    exec .snap s = .next t → (∀ p ∈ draws, isDraw p.1 = true) → runCommands draws t = .next t' → t'.hung = false →
    ∃ u, exec (.restore c.alg) t' = .next u ∧ u.core = some c ∧ u.hung = false ∧
      ∀ later : List (Instr × Word64), (∀ p ∈ later, isDraw p.1 = true) → responsesOf later u = responsesOf later t

/-- R205 across two blocks, by the order of R255: `SB.CLR alg`, a push of each word of a snapshot, and `RESTORE alg` give
any block the core the snapshot was taken of, whatever the block held and with no hash. -/
def Obligations.LoadedSnapshotBecomesTheCore : Prop :=
  ∀ (c : Core) (s : State), ∃ t,
    runCommands ((.sbClr c.alg, 0) :: (snapWords c).map (fun w => (.sbPush, w.setWidth 64)) ++ [(.restore c.alg, 0)]) s
      = .next t ∧
    t.core = some c ∧ t.rsp = some ⟨.ok, 0, 0⟩ ∧ t.hv = s.hv ∧ t.h32 = s.h32 ∧ t.h64 = s.h64 ∧ t.z32v = s.z32v ∧
    t.z32 = s.z32 ∧ t.z64v = s.z64v ∧ t.z64 = s.z64 ∧ t.err = s.err ∧ t.cfg = s.cfg

/-! ### The whole machine -/

/-- R41: no behaviour depends on what a register without a value holds. States that differ only there (after reset, in
what the model chose: log entries 3 and 4) go to such states by every step, with the same responses. -/
def Obligations.UnreadableContentsAreNeverObserved : Prop :=
  ∀ s t s' : State, s.Agrees t → step s = .next s' → ∃ t', step t = .next t' ∧ s'.Agrees t'

/-- Every step keeps the invariant of responses, errors and the hang (R75, R182, R226, R232, R237). Its clause on the hang,
the flag and that a 32-bit core is still held, is the model's choice (log entry 5): R237 says that the state of the block in
the hang is not observable. -/
def Obligations.EveryStepKeepsTheInvariant : Prop :=
  ∀ s t : State, s.Inv → step s = .next t → t.Inv

/-- The state after reset meets the invariant (R40; its clause on the hang is the model's choice, log entry 5). -/
def Obligations.ResetMeetsTheInvariant : Prop := State.reset.Inv

/-- Which commands write which registers (R21, R22, R25, R38, R183, R216): the hash, the two expander states, the core,
`ALG`, the snapshot buffer; none writes the configuration. -/
def Obligations.RegistersAreWrittenOnlyByTheirCommands : Prop :=
  ∀ (i : Instr) (s t : State), exec i s = .next t →
    (t.cfg = s.cfg ∧ t.arg = s.arg ∧ t.inbox = s.inbox) ∧
    (¬(t.hv = s.hv ∧ t.h32 = s.h32 ∧ t.h64 = s.h64) →
      i = .clr ∨ i = .fnvInit ∨ i = .fnvInt ∨ ∃ b, i = .fnvByte b) ∧
    (¬(t.z32v = s.z32v ∧ t.z32 = s.z32) → i = .clr ∨ i = .smLd32 ∨ i = .smLdh32 ∨ i = .smNext32) ∧
    (¬(t.z64v = s.z64v ∧ t.z64 = s.z64) → i = .clr ∨ i = .smLd64 ∨ i = .smLdh64 ∨ i = .smNext64) ∧
    (t.core ≠ s.core → i = .clr ∨ isDraw i = true ∨ (∃ alg, i = .seed alg) ∨ ∃ alg, i = .restore alg) ∧
    (t.alg ≠ s.alg → i = .clr ∨ (∃ alg, i = .seed alg ∧ t.alg = some alg) ∨
      ∃ alg, i = .restore alg ∧ t.alg = some alg) ∧
    (¬(t.sbTag = s.sbTag ∧ t.sbLen = s.sbLen ∧ t.sb = s.sb) →
      i = .clr ∨ i = .snap ∨ i = .sbPush ∨ ∃ alg, i = .sbClr alg)

/-- R243: a command to one block of a platform steps that block and is the identity on all others. -/
def Obligations.PlatformCommandsTouchOneBlock : Prop :=
  ∀ (p q : Platform) (k : Fin p.blocks.length), p.step k = .next q →
    q.blocks.length = p.blocks.length ∧
    (∀ j : Nat, j ≠ k.val → q.blocks[j]? = p.blocks[j]?) ∧
    (∃ s, step p.blocks[k] = .next s ∧ q.blocks[k.val]? = some s)

/-- R83 and R254 through the step: the inputs `SEED.BYTES alg, b0, …` expands to, run by the machine one step each, give
the core constructed from the hashes of the bytes, on any block that does not hang. -/
def Obligations.SeedBytesRunsToTheConstructedCore : Prop :=
  ∀ (s : State) (alg : Alg) (bytes : List Byte), s.hung = false →
    s.inbox = expandPseudo (.seedBytes alg bytes) →
    ∃ t, Host.Core.run Sys2Proof.core (bytes.length + 2) s = .next t ∧
      t.core = some (construct s.cfg alg (fnv32 bytes) (fnv64 bytes)) ∧ t.rsp = some ⟨.ok, 0, 0⟩ ∧ t.inbox = [] ∧
      t.err = s.err ∧ t.sb = s.sb ∧ t.z32 = s.z32 ∧ t.z64 = s.z64

end
end

