-- ==== Sys2Proof/Laws/Codes.lean ====
section
/-! SUPPORT. The codes of the algorithms and of the errors: no two alike, none 0, none out of its range (00_scope.md rule
R3, 60_exceptions.md rule R226). -/

namespace Sys2Proof.Machine

@[simp] theorem ofCode_code (a : Alg) : Alg.ofCode a.code = some a := by cases a <;> rfl

/-- Every code that is an algorithm's is its only code (R3, R80). -/
theorem code_of_ofCode : ∀ (c : BitVec 4) (a : Alg), Alg.ofCode c = some a → a.code = c := by
  intro c a
  cases a <;> revert c <;> decide

theorem code_ne_zero (a : Alg) : a.code ≠ 0 := by cases a <;> decide

/-- The codes of the algorithms are 1 to 9 (R3). -/
theorem code_range (a : Alg) : 1 ≤ a.code.toNat ∧ a.code.toNat ≤ 9 := by cases a <;> decide

theorem errCode_ne_zero (e : ErrCode) : e.code ≠ 0 := by cases e <;> decide

/-- Codes 7 and 10 to 15 are never returned (R226). -/
theorem status_code_used (st : Status) : st.code.toNat ≤ 9 ∧ st.code.toNat ≠ 7 := by
  rcases st with _ | _ | e
  · decide
  · decide
  · cases e <;> decide

/-- `SEEDED` says whether a core exists (R25, R35). -/
theorem seeded_eq (s : State) : s.seeded = s.core.isSome := by
  cases h : s.core with
  | none => simp [State.seeded, State.algBits, State.alg, algCode, h]
  | some c =>
    have := code_ne_zero c.alg
    simpa [State.seeded, State.algBits, State.alg, algCode, h] using this

end Sys2Proof.Machine
end

