-- ==== Sys2Proof/Laws/State.lean ====
section
/-! SUPPORT. What each update of the state leaves in each field: one lemma per field per update, so that no proof unfolds
an update. -/

namespace Sys2Proof.Machine

variable (s : State)

/-! ### `State.setHash` -/

@[simp] theorem State.setHash_hv (a : Word32) (b : Word64) : (s.setHash a b).hv = true := rfl
@[simp] theorem State.setHash_h32 (a : Word32) (b : Word64) : (s.setHash a b).h32 = a := rfl
@[simp] theorem State.setHash_h64 (a : Word32) (b : Word64) : (s.setHash a b).h64 = b := rfl
@[simp] theorem State.setHash_z32v (a : Word32) (b : Word64) : (s.setHash a b).z32v = s.z32v := rfl
@[simp] theorem State.setHash_z32 (a : Word32) (b : Word64) : (s.setHash a b).z32 = s.z32 := rfl
@[simp] theorem State.setHash_z64v (a : Word32) (b : Word64) : (s.setHash a b).z64v = s.z64v := rfl
@[simp] theorem State.setHash_z64 (a : Word32) (b : Word64) : (s.setHash a b).z64 = s.z64 := rfl
@[simp] theorem State.setHash_core (a : Word32) (b : Word64) : (s.setHash a b).core = s.core := rfl
@[simp] theorem State.setHash_err (a : Word32) (b : Word64) : (s.setHash a b).err = s.err := rfl
@[simp] theorem State.setHash_sbTag (a : Word32) (b : Word64) : (s.setHash a b).sbTag = s.sbTag := rfl
@[simp] theorem State.setHash_sbLen (a : Word32) (b : Word64) : (s.setHash a b).sbLen = s.sbLen := rfl
@[simp] theorem State.setHash_sb (a : Word32) (b : Word64) : (s.setHash a b).sb = s.sb := rfl
@[simp] theorem State.setHash_cfg (a : Word32) (b : Word64) : (s.setHash a b).cfg = s.cfg := rfl
@[simp] theorem State.setHash_arg (a : Word32) (b : Word64) : (s.setHash a b).arg = s.arg := rfl
@[simp] theorem State.setHash_rsp (a : Word32) (b : Word64) : (s.setHash a b).rsp = s.rsp := rfl
@[simp] theorem State.setHash_inbox (a : Word32) (b : Word64) : (s.setHash a b).inbox = s.inbox := rfl
@[simp] theorem State.setHash_hung (a : Word32) (b : Word64) : (s.setHash a b).hung = s.hung := rfl
@[simp] theorem State.setHash_clears (a : Word32) (b : Word64) : (s.setHash a b).clears = s.clears := rfl

/-! ### `State.setZ32` -/

@[simp] theorem State.setZ32_hv (z : Word32) : (s.setZ32 z).hv = s.hv := rfl
@[simp] theorem State.setZ32_h32 (z : Word32) : (s.setZ32 z).h32 = s.h32 := rfl
@[simp] theorem State.setZ32_h64 (z : Word32) : (s.setZ32 z).h64 = s.h64 := rfl
@[simp] theorem State.setZ32_z32v (z : Word32) : (s.setZ32 z).z32v = true := rfl
@[simp] theorem State.setZ32_z32 (z : Word32) : (s.setZ32 z).z32 = z := rfl
@[simp] theorem State.setZ32_z64v (z : Word32) : (s.setZ32 z).z64v = s.z64v := rfl
@[simp] theorem State.setZ32_z64 (z : Word32) : (s.setZ32 z).z64 = s.z64 := rfl
@[simp] theorem State.setZ32_core (z : Word32) : (s.setZ32 z).core = s.core := rfl
@[simp] theorem State.setZ32_err (z : Word32) : (s.setZ32 z).err = s.err := rfl
@[simp] theorem State.setZ32_sbTag (z : Word32) : (s.setZ32 z).sbTag = s.sbTag := rfl
@[simp] theorem State.setZ32_sbLen (z : Word32) : (s.setZ32 z).sbLen = s.sbLen := rfl
@[simp] theorem State.setZ32_sb (z : Word32) : (s.setZ32 z).sb = s.sb := rfl
@[simp] theorem State.setZ32_cfg (z : Word32) : (s.setZ32 z).cfg = s.cfg := rfl
@[simp] theorem State.setZ32_arg (z : Word32) : (s.setZ32 z).arg = s.arg := rfl
@[simp] theorem State.setZ32_rsp (z : Word32) : (s.setZ32 z).rsp = s.rsp := rfl
@[simp] theorem State.setZ32_inbox (z : Word32) : (s.setZ32 z).inbox = s.inbox := rfl
@[simp] theorem State.setZ32_hung (z : Word32) : (s.setZ32 z).hung = s.hung := rfl
@[simp] theorem State.setZ32_clears (z : Word32) : (s.setZ32 z).clears = s.clears := rfl

/-! ### `State.setZ64` -/

@[simp] theorem State.setZ64_hv (z : Word64) : (s.setZ64 z).hv = s.hv := rfl
@[simp] theorem State.setZ64_h32 (z : Word64) : (s.setZ64 z).h32 = s.h32 := rfl
@[simp] theorem State.setZ64_h64 (z : Word64) : (s.setZ64 z).h64 = s.h64 := rfl
@[simp] theorem State.setZ64_z32v (z : Word64) : (s.setZ64 z).z32v = s.z32v := rfl
@[simp] theorem State.setZ64_z32 (z : Word64) : (s.setZ64 z).z32 = s.z32 := rfl
@[simp] theorem State.setZ64_z64v (z : Word64) : (s.setZ64 z).z64v = true := rfl
@[simp] theorem State.setZ64_z64 (z : Word64) : (s.setZ64 z).z64 = z := rfl
@[simp] theorem State.setZ64_core (z : Word64) : (s.setZ64 z).core = s.core := rfl
@[simp] theorem State.setZ64_err (z : Word64) : (s.setZ64 z).err = s.err := rfl
@[simp] theorem State.setZ64_sbTag (z : Word64) : (s.setZ64 z).sbTag = s.sbTag := rfl
@[simp] theorem State.setZ64_sbLen (z : Word64) : (s.setZ64 z).sbLen = s.sbLen := rfl
@[simp] theorem State.setZ64_sb (z : Word64) : (s.setZ64 z).sb = s.sb := rfl
@[simp] theorem State.setZ64_cfg (z : Word64) : (s.setZ64 z).cfg = s.cfg := rfl
@[simp] theorem State.setZ64_arg (z : Word64) : (s.setZ64 z).arg = s.arg := rfl
@[simp] theorem State.setZ64_rsp (z : Word64) : (s.setZ64 z).rsp = s.rsp := rfl
@[simp] theorem State.setZ64_inbox (z : Word64) : (s.setZ64 z).inbox = s.inbox := rfl
@[simp] theorem State.setZ64_hung (z : Word64) : (s.setZ64 z).hung = s.hung := rfl
@[simp] theorem State.setZ64_clears (z : Word64) : (s.setZ64 z).clears = s.clears := rfl

/-! ### `State.setCore` -/

@[simp] theorem State.setCore_hv (c : Core) : (s.setCore c).hv = s.hv := rfl
@[simp] theorem State.setCore_h32 (c : Core) : (s.setCore c).h32 = s.h32 := rfl
@[simp] theorem State.setCore_h64 (c : Core) : (s.setCore c).h64 = s.h64 := rfl
@[simp] theorem State.setCore_z32v (c : Core) : (s.setCore c).z32v = s.z32v := rfl
@[simp] theorem State.setCore_z32 (c : Core) : (s.setCore c).z32 = s.z32 := rfl
@[simp] theorem State.setCore_z64v (c : Core) : (s.setCore c).z64v = s.z64v := rfl
@[simp] theorem State.setCore_z64 (c : Core) : (s.setCore c).z64 = s.z64 := rfl
@[simp] theorem State.setCore_core (c : Core) : (s.setCore c).core = some c := rfl
@[simp] theorem State.setCore_err (c : Core) : (s.setCore c).err = s.err := rfl
@[simp] theorem State.setCore_sbTag (c : Core) : (s.setCore c).sbTag = s.sbTag := rfl
@[simp] theorem State.setCore_sbLen (c : Core) : (s.setCore c).sbLen = s.sbLen := rfl
@[simp] theorem State.setCore_sb (c : Core) : (s.setCore c).sb = s.sb := rfl
@[simp] theorem State.setCore_cfg (c : Core) : (s.setCore c).cfg = s.cfg := rfl
@[simp] theorem State.setCore_arg (c : Core) : (s.setCore c).arg = s.arg := rfl
@[simp] theorem State.setCore_rsp (c : Core) : (s.setCore c).rsp = s.rsp := rfl
@[simp] theorem State.setCore_inbox (c : Core) : (s.setCore c).inbox = s.inbox := rfl
@[simp] theorem State.setCore_hung (c : Core) : (s.setCore c).hung = s.hung := rfl
@[simp] theorem State.setCore_clears (c : Core) : (s.setCore c).clears = s.clears := rfl

/-! ### `State.setBuffer` -/

@[simp] theorem State.setBuffer_hv (g : Option Alg) (n : Fin 131) (b : Vector Word32 130) : (s.setBuffer g n b).hv = s.hv := rfl
@[simp] theorem State.setBuffer_h32 (g : Option Alg) (n : Fin 131) (b : Vector Word32 130) : (s.setBuffer g n b).h32 = s.h32 := rfl
@[simp] theorem State.setBuffer_h64 (g : Option Alg) (n : Fin 131) (b : Vector Word32 130) : (s.setBuffer g n b).h64 = s.h64 := rfl
@[simp] theorem State.setBuffer_z32v (g : Option Alg) (n : Fin 131) (b : Vector Word32 130) : (s.setBuffer g n b).z32v = s.z32v := rfl
@[simp] theorem State.setBuffer_z32 (g : Option Alg) (n : Fin 131) (b : Vector Word32 130) : (s.setBuffer g n b).z32 = s.z32 := rfl
@[simp] theorem State.setBuffer_z64v (g : Option Alg) (n : Fin 131) (b : Vector Word32 130) : (s.setBuffer g n b).z64v = s.z64v := rfl
@[simp] theorem State.setBuffer_z64 (g : Option Alg) (n : Fin 131) (b : Vector Word32 130) : (s.setBuffer g n b).z64 = s.z64 := rfl
@[simp] theorem State.setBuffer_core (g : Option Alg) (n : Fin 131) (b : Vector Word32 130) : (s.setBuffer g n b).core = s.core := rfl
@[simp] theorem State.setBuffer_err (g : Option Alg) (n : Fin 131) (b : Vector Word32 130) : (s.setBuffer g n b).err = s.err := rfl
@[simp] theorem State.setBuffer_sbTag (g : Option Alg) (n : Fin 131) (b : Vector Word32 130) : (s.setBuffer g n b).sbTag = g := rfl
@[simp] theorem State.setBuffer_sbLen (g : Option Alg) (n : Fin 131) (b : Vector Word32 130) : (s.setBuffer g n b).sbLen = n := rfl
@[simp] theorem State.setBuffer_sb (g : Option Alg) (n : Fin 131) (b : Vector Word32 130) : (s.setBuffer g n b).sb = b := rfl
@[simp] theorem State.setBuffer_cfg (g : Option Alg) (n : Fin 131) (b : Vector Word32 130) : (s.setBuffer g n b).cfg = s.cfg := rfl
@[simp] theorem State.setBuffer_arg (g : Option Alg) (n : Fin 131) (b : Vector Word32 130) : (s.setBuffer g n b).arg = s.arg := rfl
@[simp] theorem State.setBuffer_rsp (g : Option Alg) (n : Fin 131) (b : Vector Word32 130) : (s.setBuffer g n b).rsp = s.rsp := rfl
@[simp] theorem State.setBuffer_inbox (g : Option Alg) (n : Fin 131) (b : Vector Word32 130) : (s.setBuffer g n b).inbox = s.inbox := rfl
@[simp] theorem State.setBuffer_hung (g : Option Alg) (n : Fin 131) (b : Vector Word32 130) : (s.setBuffer g n b).hung = s.hung := rfl
@[simp] theorem State.setBuffer_clears (g : Option Alg) (n : Fin 131) (b : Vector Word32 130) : (s.setBuffer g n b).clears = s.clears := rfl

/-! ### `State.respond` -/

@[simp] theorem State.respond_hv (st : Status) (r f : Word64) : (s.respond st r f).hv = s.hv := rfl
@[simp] theorem State.respond_h32 (st : Status) (r f : Word64) : (s.respond st r f).h32 = s.h32 := rfl
@[simp] theorem State.respond_h64 (st : Status) (r f : Word64) : (s.respond st r f).h64 = s.h64 := rfl
@[simp] theorem State.respond_z32v (st : Status) (r f : Word64) : (s.respond st r f).z32v = s.z32v := rfl
@[simp] theorem State.respond_z32 (st : Status) (r f : Word64) : (s.respond st r f).z32 = s.z32 := rfl
@[simp] theorem State.respond_z64v (st : Status) (r f : Word64) : (s.respond st r f).z64v = s.z64v := rfl
@[simp] theorem State.respond_z64 (st : Status) (r f : Word64) : (s.respond st r f).z64 = s.z64 := rfl
@[simp] theorem State.respond_core (st : Status) (r f : Word64) : (s.respond st r f).core = s.core := rfl
@[simp] theorem State.respond_err (st : Status) (r f : Word64) : (s.respond st r f).err = s.err := rfl
@[simp] theorem State.respond_sbTag (st : Status) (r f : Word64) : (s.respond st r f).sbTag = s.sbTag := rfl
@[simp] theorem State.respond_sbLen (st : Status) (r f : Word64) : (s.respond st r f).sbLen = s.sbLen := rfl
@[simp] theorem State.respond_sb (st : Status) (r f : Word64) : (s.respond st r f).sb = s.sb := rfl
@[simp] theorem State.respond_cfg (st : Status) (r f : Word64) : (s.respond st r f).cfg = s.cfg := rfl
@[simp] theorem State.respond_arg (st : Status) (r f : Word64) : (s.respond st r f).arg = s.arg := rfl
@[simp] theorem State.respond_rsp (st : Status) (r f : Word64) : (s.respond st r f).rsp = some ⟨st, r, f⟩ := rfl
@[simp] theorem State.respond_inbox (st : Status) (r f : Word64) : (s.respond st r f).inbox = s.inbox := rfl
@[simp] theorem State.respond_hung (st : Status) (r f : Word64) : (s.respond st r f).hung = s.hung := rfl
@[simp] theorem State.respond_clears (st : Status) (r f : Word64) : (s.respond st r f).clears = s.clears := rfl

/-! ### `State.ok` -/

@[simp] theorem State.ok_hv (r f : Word64) : (s.ok r f).hv = s.hv := rfl
@[simp] theorem State.ok_h32 (r f : Word64) : (s.ok r f).h32 = s.h32 := rfl
@[simp] theorem State.ok_h64 (r f : Word64) : (s.ok r f).h64 = s.h64 := rfl
@[simp] theorem State.ok_z32v (r f : Word64) : (s.ok r f).z32v = s.z32v := rfl
@[simp] theorem State.ok_z32 (r f : Word64) : (s.ok r f).z32 = s.z32 := rfl
@[simp] theorem State.ok_z64v (r f : Word64) : (s.ok r f).z64v = s.z64v := rfl
@[simp] theorem State.ok_z64 (r f : Word64) : (s.ok r f).z64 = s.z64 := rfl
@[simp] theorem State.ok_core (r f : Word64) : (s.ok r f).core = s.core := rfl
@[simp] theorem State.ok_err (r f : Word64) : (s.ok r f).err = s.err := rfl
@[simp] theorem State.ok_sbTag (r f : Word64) : (s.ok r f).sbTag = s.sbTag := rfl
@[simp] theorem State.ok_sbLen (r f : Word64) : (s.ok r f).sbLen = s.sbLen := rfl
@[simp] theorem State.ok_sb (r f : Word64) : (s.ok r f).sb = s.sb := rfl
@[simp] theorem State.ok_cfg (r f : Word64) : (s.ok r f).cfg = s.cfg := rfl
@[simp] theorem State.ok_arg (r f : Word64) : (s.ok r f).arg = s.arg := rfl
@[simp] theorem State.ok_rsp (r f : Word64) : (s.ok r f).rsp = some ⟨.ok, r, f⟩ := rfl
@[simp] theorem State.ok_inbox (r f : Word64) : (s.ok r f).inbox = s.inbox := rfl
@[simp] theorem State.ok_hung (r f : Word64) : (s.ok r f).hung = s.hung := rfl
@[simp] theorem State.ok_clears (r f : Word64) : (s.ok r f).clears = s.clears := rfl

/-! ### `State.raise` -/

@[simp] theorem State.raise_hv (e : ErrCode) : (s.raise e).hv = s.hv := rfl
@[simp] theorem State.raise_h32 (e : ErrCode) : (s.raise e).h32 = s.h32 := rfl
@[simp] theorem State.raise_h64 (e : ErrCode) : (s.raise e).h64 = s.h64 := rfl
@[simp] theorem State.raise_z32v (e : ErrCode) : (s.raise e).z32v = s.z32v := rfl
@[simp] theorem State.raise_z32 (e : ErrCode) : (s.raise e).z32 = s.z32 := rfl
@[simp] theorem State.raise_z64v (e : ErrCode) : (s.raise e).z64v = s.z64v := rfl
@[simp] theorem State.raise_z64 (e : ErrCode) : (s.raise e).z64 = s.z64 := rfl
@[simp] theorem State.raise_core (e : ErrCode) : (s.raise e).core = s.core := rfl
@[simp] theorem State.raise_err (e : ErrCode) : (s.raise e).err = recordFirst s.err e := rfl
@[simp] theorem State.raise_sbTag (e : ErrCode) : (s.raise e).sbTag = s.sbTag := rfl
@[simp] theorem State.raise_sbLen (e : ErrCode) : (s.raise e).sbLen = s.sbLen := rfl
@[simp] theorem State.raise_sb (e : ErrCode) : (s.raise e).sb = s.sb := rfl
@[simp] theorem State.raise_cfg (e : ErrCode) : (s.raise e).cfg = s.cfg := rfl
@[simp] theorem State.raise_arg (e : ErrCode) : (s.raise e).arg = s.arg := rfl
@[simp] theorem State.raise_rsp (e : ErrCode) : (s.raise e).rsp = some ⟨.error e, 0, 0⟩ := rfl
@[simp] theorem State.raise_inbox (e : ErrCode) : (s.raise e).inbox = s.inbox := rfl
@[simp] theorem State.raise_hung (e : ErrCode) : (s.raise e).hung = s.hung := rfl
@[simp] theorem State.raise_clears (e : ErrCode) : (s.raise e).clears = s.clears := rfl

/-! ### `State.hang` -/

@[simp] theorem State.hang_hv : (s.hang).hv = s.hv := rfl
@[simp] theorem State.hang_h32 : (s.hang).h32 = s.h32 := rfl
@[simp] theorem State.hang_h64 : (s.hang).h64 = s.h64 := rfl
@[simp] theorem State.hang_z32v : (s.hang).z32v = s.z32v := rfl
@[simp] theorem State.hang_z32 : (s.hang).z32 = s.z32 := rfl
@[simp] theorem State.hang_z64v : (s.hang).z64v = s.z64v := rfl
@[simp] theorem State.hang_z64 : (s.hang).z64 = s.z64 := rfl
@[simp] theorem State.hang_core : (s.hang).core = s.core := rfl
@[simp] theorem State.hang_err : (s.hang).err = s.err := rfl
@[simp] theorem State.hang_sbTag : (s.hang).sbTag = s.sbTag := rfl
@[simp] theorem State.hang_sbLen : (s.hang).sbLen = s.sbLen := rfl
@[simp] theorem State.hang_sb : (s.hang).sb = s.sb := rfl
@[simp] theorem State.hang_cfg : (s.hang).cfg = s.cfg := rfl
@[simp] theorem State.hang_arg : (s.hang).arg = s.arg := rfl
@[simp] theorem State.hang_rsp : (s.hang).rsp = none := rfl
@[simp] theorem State.hang_inbox : (s.hang).inbox = s.inbox := rfl
@[simp] theorem State.hang_hung : (s.hang).hung = true := rfl
@[simp] theorem State.hang_clears : (s.hang).clears = s.clears := rfl

/-! ### `State.clear` -/

@[simp] theorem State.clear_hv : (s.clear).hv = false := rfl
@[simp] theorem State.clear_h32 : (s.clear).h32 = (Config.unspecified s.clears).h32 := rfl
@[simp] theorem State.clear_h64 : (s.clear).h64 = (Config.unspecified s.clears).h64 := rfl
@[simp] theorem State.clear_z32v : (s.clear).z32v = false := rfl
@[simp] theorem State.clear_z32 : (s.clear).z32 = (Config.unspecified s.clears).z32 := rfl
@[simp] theorem State.clear_z64v : (s.clear).z64v = false := rfl
@[simp] theorem State.clear_z64 : (s.clear).z64 = (Config.unspecified s.clears).z64 := rfl
@[simp] theorem State.clear_core : (s.clear).core = none := rfl
@[simp] theorem State.clear_err : (s.clear).err = none := rfl
@[simp] theorem State.clear_sbTag : (s.clear).sbTag = none := rfl
@[simp] theorem State.clear_sbLen : (s.clear).sbLen = 0 := rfl
@[simp] theorem State.clear_sb : (s.clear).sb = (Config.unspecified s.clears).sb := rfl
@[simp] theorem State.clear_cfg : (s.clear).cfg = s.cfg := rfl
@[simp] theorem State.clear_arg : (s.clear).arg = s.arg := rfl
@[simp] theorem State.clear_rsp : (s.clear).rsp = s.rsp := rfl
@[simp] theorem State.clear_inbox : (s.clear).inbox = s.inbox := rfl
@[simp] theorem State.clear_hung : (s.clear).hung = false := rfl
@[simp] theorem State.clear_clears : (s.clear).clears = s.clears + 1 := rfl

/-! ### `State.pulseReset` -/

@[simp] theorem State.pulseReset_hv : (s.pulseReset).hv = false := rfl
@[simp] theorem State.pulseReset_h32 : (s.pulseReset).h32 = (Config.unspecified s.clears).h32 := rfl
@[simp] theorem State.pulseReset_h64 : (s.pulseReset).h64 = (Config.unspecified s.clears).h64 := rfl
@[simp] theorem State.pulseReset_z32v : (s.pulseReset).z32v = false := rfl
@[simp] theorem State.pulseReset_z32 : (s.pulseReset).z32 = (Config.unspecified s.clears).z32 := rfl
@[simp] theorem State.pulseReset_z64v : (s.pulseReset).z64v = false := rfl
@[simp] theorem State.pulseReset_z64 : (s.pulseReset).z64 = (Config.unspecified s.clears).z64 := rfl
@[simp] theorem State.pulseReset_core : (s.pulseReset).core = none := rfl
@[simp] theorem State.pulseReset_err : (s.pulseReset).err = none := rfl
@[simp] theorem State.pulseReset_sbTag : (s.pulseReset).sbTag = none := rfl
@[simp] theorem State.pulseReset_sbLen : (s.pulseReset).sbLen = 0 := rfl
@[simp] theorem State.pulseReset_sb : (s.pulseReset).sb = (Config.unspecified s.clears).sb := rfl
@[simp] theorem State.pulseReset_cfg : (s.pulseReset).cfg = s.cfg := rfl
@[simp] theorem State.pulseReset_arg : (s.pulseReset).arg = s.arg := rfl
@[simp] theorem State.pulseReset_rsp : (s.pulseReset).rsp = none := rfl
@[simp] theorem State.pulseReset_inbox : (s.pulseReset).inbox = s.inbox := rfl
@[simp] theorem State.pulseReset_hung : (s.pulseReset).hung = false := rfl
@[simp] theorem State.pulseReset_clears : (s.pulseReset).clears = s.clears + 1 := rfl

/-! ### `State.setInbox` -/

@[simp] theorem State.setInbox_hv (l : List HostInput) : (s.setInbox l).hv = s.hv := rfl
@[simp] theorem State.setInbox_h32 (l : List HostInput) : (s.setInbox l).h32 = s.h32 := rfl
@[simp] theorem State.setInbox_h64 (l : List HostInput) : (s.setInbox l).h64 = s.h64 := rfl
@[simp] theorem State.setInbox_z32v (l : List HostInput) : (s.setInbox l).z32v = s.z32v := rfl
@[simp] theorem State.setInbox_z32 (l : List HostInput) : (s.setInbox l).z32 = s.z32 := rfl
@[simp] theorem State.setInbox_z64v (l : List HostInput) : (s.setInbox l).z64v = s.z64v := rfl
@[simp] theorem State.setInbox_z64 (l : List HostInput) : (s.setInbox l).z64 = s.z64 := rfl
@[simp] theorem State.setInbox_core (l : List HostInput) : (s.setInbox l).core = s.core := rfl
@[simp] theorem State.setInbox_err (l : List HostInput) : (s.setInbox l).err = s.err := rfl
@[simp] theorem State.setInbox_sbTag (l : List HostInput) : (s.setInbox l).sbTag = s.sbTag := rfl
@[simp] theorem State.setInbox_sbLen (l : List HostInput) : (s.setInbox l).sbLen = s.sbLen := rfl
@[simp] theorem State.setInbox_sb (l : List HostInput) : (s.setInbox l).sb = s.sb := rfl
@[simp] theorem State.setInbox_cfg (l : List HostInput) : (s.setInbox l).cfg = s.cfg := rfl
@[simp] theorem State.setInbox_arg (l : List HostInput) : (s.setInbox l).arg = s.arg := rfl
@[simp] theorem State.setInbox_rsp (l : List HostInput) : (s.setInbox l).rsp = s.rsp := rfl
@[simp] theorem State.setInbox_inbox (l : List HostInput) : (s.setInbox l).inbox = l := rfl
@[simp] theorem State.setInbox_hung (l : List HostInput) : (s.setInbox l).hung = s.hung := rfl
@[simp] theorem State.setInbox_clears (l : List HostInput) : (s.setInbox l).clears = s.clears := rfl

/-! ### `State.setArg` -/

@[simp] theorem State.setArg_hv (a : Word64) : (s.setArg a).hv = s.hv := rfl
@[simp] theorem State.setArg_h32 (a : Word64) : (s.setArg a).h32 = s.h32 := rfl
@[simp] theorem State.setArg_h64 (a : Word64) : (s.setArg a).h64 = s.h64 := rfl
@[simp] theorem State.setArg_z32v (a : Word64) : (s.setArg a).z32v = s.z32v := rfl
@[simp] theorem State.setArg_z32 (a : Word64) : (s.setArg a).z32 = s.z32 := rfl
@[simp] theorem State.setArg_z64v (a : Word64) : (s.setArg a).z64v = s.z64v := rfl
@[simp] theorem State.setArg_z64 (a : Word64) : (s.setArg a).z64 = s.z64 := rfl
@[simp] theorem State.setArg_core (a : Word64) : (s.setArg a).core = s.core := rfl
@[simp] theorem State.setArg_err (a : Word64) : (s.setArg a).err = s.err := rfl
@[simp] theorem State.setArg_sbTag (a : Word64) : (s.setArg a).sbTag = s.sbTag := rfl
@[simp] theorem State.setArg_sbLen (a : Word64) : (s.setArg a).sbLen = s.sbLen := rfl
@[simp] theorem State.setArg_sb (a : Word64) : (s.setArg a).sb = s.sb := rfl
@[simp] theorem State.setArg_cfg (a : Word64) : (s.setArg a).cfg = s.cfg := rfl
@[simp] theorem State.setArg_arg (a : Word64) : (s.setArg a).arg = a := rfl
@[simp] theorem State.setArg_rsp (a : Word64) : (s.setArg a).rsp = s.rsp := rfl
@[simp] theorem State.setArg_inbox (a : Word64) : (s.setArg a).inbox = s.inbox := rfl
@[simp] theorem State.setArg_hung (a : Word64) : (s.setArg a).hung = s.hung := rfl
@[simp] theorem State.setArg_clears (a : Word64) : (s.setArg a).clears = s.clears := rfl

/-! ### `State.present` -/

@[simp] theorem State.present_hv (w : Word32) : (s.present w).hv = s.hv := rfl
@[simp] theorem State.present_h32 (w : Word32) : (s.present w).h32 = s.h32 := rfl
@[simp] theorem State.present_h64 (w : Word32) : (s.present w).h64 = s.h64 := rfl
@[simp] theorem State.present_z32v (w : Word32) : (s.present w).z32v = s.z32v := rfl
@[simp] theorem State.present_z32 (w : Word32) : (s.present w).z32 = s.z32 := rfl
@[simp] theorem State.present_z64v (w : Word32) : (s.present w).z64v = s.z64v := rfl
@[simp] theorem State.present_z64 (w : Word32) : (s.present w).z64 = s.z64 := rfl
@[simp] theorem State.present_core (w : Word32) : (s.present w).core = s.core := rfl
@[simp] theorem State.present_err (w : Word32) : (s.present w).err = s.err := rfl
@[simp] theorem State.present_sbTag (w : Word32) : (s.present w).sbTag = s.sbTag := rfl
@[simp] theorem State.present_sbLen (w : Word32) : (s.present w).sbLen = s.sbLen := rfl
@[simp] theorem State.present_sb (w : Word32) : (s.present w).sb = s.sb := rfl
@[simp] theorem State.present_cfg (w : Word32) : (s.present w).cfg = s.cfg := rfl
@[simp] theorem State.present_arg (w : Word32) : (s.present w).arg = s.arg := rfl
@[simp] theorem State.present_rsp (w : Word32) : (s.present w).rsp = s.rsp := rfl
@[simp] theorem State.present_inbox (w : Word32) : (s.present w).inbox = .command w s.arg :: s.inbox := rfl
@[simp] theorem State.present_hung (w : Word32) : (s.present w).hung = false := rfl
@[simp] theorem State.present_clears (w : Word32) : (s.present w).clears = s.clears := rfl

end Sys2Proof.Machine
end

