-- ==== Sys2Proof/Laws/Ops.lean ====
section
/-! SUPPORT. What the shared operations do, said once each: the error record, the snapshot buffer's reads and writes, the
tables of XS7 and XS4096, the algorithm codes, and the host's next input. -/

namespace Sys2Proof.Machine

/-! ### Errors -/

@[simp] theorem recordFirst_none (e : ErrCode) : recordFirst none e = some e := rfl
@[simp] theorem recordFirst_some (a e : ErrCode) : recordFirst (some a) e = some a := rfl

/-- `ERR` is never none after an error (R232). -/
theorem recordFirst_ne_none (err : Option ErrCode) (e : ErrCode) : recordFirst err e ≠ none := by
  cases err <;> simp

/-- What `ERR` holds after an error was there before, or is the error (R34). -/
theorem recordFirst_eq (err : Option ErrCode) (e : ErrCode) : recordFirst err e = err ∨ recordFirst err e = some e := by
  cases err <;> simp

/-- The error record as the library's choice of the first (R34, R232). -/
theorem recordFirst_eq_or (err : Option ErrCode) (e : ErrCode) : recordFirst err e = err.or (some e) := by
  cases err <;> rfl

/-- The error entry as one record update (R232). -/
theorem State.raise_eq (s : State) (e : ErrCode) :
    s.raise e = { s with err := s.err.or (some e), rsp := some ⟨.error e, 0, 0⟩ } := by
  rw [State.raise, recordFirst_eq_or]

/-! ### Rotations (R11) -/

theorem rotl32_eq_rotateLeft (a : Word32) (k : Nat) (h : k < 32) : rotl32 a k = a.rotateLeft k := by
  rw [BitVec.rotateLeft, BitVec.rotateLeftAux, Nat.mod_eq_of_lt h, rotl32]

theorem rotl64_eq_rotateLeft (a : Word64) (k : Nat) (h : k < 64) : rotl64 a k = a.rotateLeft k := by
  rw [BitVec.rotateLeft, BitVec.rotateLeftAux, Nat.mod_eq_of_lt h, rotl64]

/-! ### The snapshot buffer -/

/-- A word is read exactly below `SBLEN` (R51, R200). -/
theorem State.sbRead_of_lt (s : State) (k : Nat) (h : k < s.sbLen.val) :
    s.sbRead k = some (s.sb[k]'(by have := s.sbLen.isLt; omega)) := by
  have hk : k < 130 := by have := s.sbLen.isLt; omega
  simp [State.sbRead, h, hk]

theorem State.sbRead_of_le (s : State) (k : Nat) (h : s.sbLen.val ≤ k) : s.sbRead k = none := by
  simp [State.sbRead, Nat.not_lt.mpr h]

/-- Where `writeWords` puts its words, and that it leaves every other word (R199). -/
theorem getElem_writeWords (ws : List Word32) (sb : Vector Word32 130) (k j : Nat) (hj : j < 130) :
    (writeWords sb k ws)[j] = if h : k ≤ j ∧ j < k + ws.length then ws[j - k]'(by omega) else sb[j] := by
  induction ws generalizing sb k with
  | nil =>
    have h : ¬(k ≤ j ∧ j < k + ([] : List Word32).length) := by rw [List.length_nil]; omega
    rw [dif_neg h, writeWords]
  | cons w ws ih =>
    rw [writeWords, ih]
    by_cases h1 : k + 1 ≤ j ∧ j < k + 1 + ws.length
    · have h2 : k ≤ j ∧ j < k + (w :: ws).length := by simp; omega
      rw [dif_pos h1, dif_pos h2, List.getElem_cons]
      have h3 : j - k ≠ 0 := by omega
      rw [dif_neg h3]
      congr 1
    · rw [dif_neg h1]
      by_cases h4 : j = k
      · subst h4
        have h2 : j ≤ j ∧ j < j + (w :: ws).length := by simp
        rw [dif_pos h2]
        simp
      · have h2 : ¬(k ≤ j ∧ j < k + (w :: ws).length) := by simp at h1 ⊢; omega
        rw [dif_neg h2, Vector.getElem_setIfInBounds_ne]
        omega

/-! ### The tables -/

/-- A tap of the XS7 table, its index modulo 8 (R52). -/
theorem read8_add (X : Vector Word32 8) (i k : BitVec 3) :
    read8 X (i + k) = X[(i.toNat + k.toNat) % 8]'(Nat.mod_lt _ (by decide)) := by
  simp [read8]

/-- A tap of the XS4096 table, its index modulo 128 (R52). -/
theorem read128_add (X : Vector Word32 128) (i k : BitVec 7) :
    read128 X (i + k) = X[(i.toNat + k.toNat) % 128]'(Nat.mod_lt _ (by decide)) := by
  simp [read128]

theorem read8_write8 (X : Vector Word32 8) (i j : BitVec 3) (v : Word32) :
    read8 (write8 X i v) j = if i = j then v else read8 X j := by
  simp only [read8, write8, Vector.getElem_set]
  by_cases h : i = j
  · simp [h]
  · have : i.toNat ≠ j.toNat := fun e => h (BitVec.eq_of_toNat_eq e)
    simp [h, this]

theorem read128_write128 (X : Vector Word32 128) (i j : BitVec 7) (v : Word32) :
    read128 (write128 X i v) j = if i = j then v else read128 X j := by
  simp only [read128, write128, Vector.getElem_set]
  by_cases h : i = j
  · simp [h]
  · have : i.toNat ≠ j.toNat := fun e => h (BitVec.eq_of_toNat_eq e)
    simp [h, this]

/-! ### The host's next input -/

@[simp] theorem takeInput_idle (s : State) (h : s.inbox = []) : takeInput s = .next s := by
  simp [takeInput, h]

theorem takeInput_reset (s : State) (rest : List HostInput) (h : s.inbox = .reset :: rest) :
    takeInput s = .next (s.setInbox rest).pulseReset := by
  simp [takeInput, h]

theorem takeInput_command (s : State) (cmd : Word32) (arg : Word64) (rest : List HostInput)
    (h : s.inbox = .command cmd arg :: rest) : takeInput s = takeCommand cmd arg (s.setInbox rest) := by
  simp [takeInput, h]

/-- In the hang a command is dropped (R237). -/
theorem takeCommand_hung (cmd : Word32) (arg : Word64) (s : State) (h : s.hung = true) :
    takeCommand cmd arg s = .next s := by
  rw [takeCommand, if_pos h]

/-- Out of the hang a command word is executed with its operand (R70). -/
theorem takeCommand_running (cmd : Word32) (arg : Word64) (s : State) (h : s.hung = false) :
    takeCommand cmd arg s = execWord cmd (s.setArg arg) := by
  rw [takeCommand, if_neg (by simp [h])]

/-- All that a step can be: idle, a reset, a command the hang does not accept, a word that is no command, or a command
run (R70, R77, R237, R250). -/
theorem step_cases (s : State) :
    (s.inbox = [] ∧ step s = .next s) ∨
    (∃ rest, s.inbox = .reset :: rest ∧ step s = .next (s.setInbox rest).pulseReset) ∨
    (∃ cmd arg rest, s.inbox = .command cmd arg :: rest ∧ s.hung = true ∧ step s = .next (s.setInbox rest)) ∨
    (∃ cmd arg rest why, s.inbox = .command cmd arg :: rest ∧ s.hung = false ∧ decode cmd = .illegal why ∧
      step s = .next (((s.setInbox rest).setArg arg).raise .illegal)) ∨
    (∃ cmd arg rest i, s.inbox = .command cmd arg :: rest ∧ s.hung = false ∧ decode cmd = .command i ∧
      step s = exec i ((s.setInbox rest).setArg arg)) := by
  unfold step
  cases hi : s.inbox with
  | nil => simp [hi]
  | cons x rest =>
    cases x with
    | reset => exact .inr (.inl ⟨rest, rfl, takeInput_reset s rest hi⟩)
    | command cmd arg =>
      rw [takeInput_command s cmd arg rest hi]
      cases hh : s.hung with
      | true => exact .inr (.inr (.inl ⟨cmd, arg, rest, rfl, rfl, by simp [takeCommand, hh]⟩))
      | false =>
        cases hd : decode cmd with
        | illegal why =>
          exact .inr (.inr (.inr (.inl ⟨cmd, arg, rest, why, rfl, rfl, hd, by simp [takeCommand, hh, execWord, hd]⟩)))
        | command i =>
          exact .inr (.inr (.inr (.inr ⟨cmd, arg, rest, i, rfl, rfl, hd, by simp [takeCommand, hh, execWord, hd]⟩)))

end Sys2Proof.Machine
end

