-- ==== Sys2Proof/Laws/Snapshot.lean ====
section
/-! SUPPORT. Snapshots have the length of their algorithm (46_snapshot.md rule R197), and an advance keeps the algorithm
of a core (43_xoshiro_cores.md rule R143). The binary64 image lies below 1.0. -/

namespace Sys2Proof.Machine

/-! ### `NWORDS` (R196) -/

@[simp] theorem nwords_xs128 : (nwords .xs128).val = 4 := rfl
@[simp] theorem nwords_xs7 : (nwords .xs7).val = 9 := rfl
@[simp] theorem nwords_xs4096 : (nwords .xs4096).val = 130 := rfl
@[simp] theorem nwords_xorwow : (nwords .xorwow).val = 6 := rfl
@[simp] theorem nwords_xo128pp : (nwords .xo128pp).val = 4 := rfl
@[simp] theorem nwords_xo128p : (nwords .xo128p).val = 4 := rfl
@[simp] theorem nwords_xoro128p : (nwords .xoro128p).val = 4 := rfl
@[simp] theorem nwords_sm32 : (nwords .sm32).val = 1 := rfl
@[simp] theorem nwords_sm64 : (nwords .sm64).val = 2 := rfl

/-! ### Lengths and tags -/

/-- A snapshot has `NWORDS(alg)` words (R197). -/
theorem snapWords_length (c : Core) : (snapWords c).length = (nwords c.alg).val := by
  rcases c with c | c <;> cases c <;> simp [snapWords, snapWords32, snapWords64, Core.alg, Core32.alg, Core64.alg]

@[simp] theorem advance32_alg (cfg : Config) (c : Core32) : (advance32 cfg c).1.alg = c.alg := by cases c <;> rfl

@[simp] theorem advance64_alg (cfg : Config) (c : Core64) : (advance64 cfg c).1.alg = c.alg := by cases c <;> rfl

@[simp] theorem advanceCore_alg (cfg : Config) (c : Core) : (advanceCore cfg c).alg = c.alg := by
  cases c <;> simp [advanceCore, Core.alg]

@[simp] theorem getElem_wordsAt (L : Vector Word32 130) (k m j : Nat) (h : k + m ≤ 130) (hj : j < m) :
    (wordsAt L k m h)[j] = L[k + j] := by
  simp [wordsAt]

/-- A restored core has the algorithm it was restored as (R198). -/
theorem coreOfWords_alg (alg : Alg) (L : Vector Word32 130) (c : Core) (h : coreOfWords alg L = some c) : c.alg = alg := by
  cases alg <;> simp only [coreOfWords] at h <;> (try split at h) <;> simp at h <;> subst h <;> rfl

/-- A core is restored exactly when tag and length are the algorithm's and its words stand for a core (R198). -/
theorem restoreWords_eq_some (alg : Alg) (tag : Option Alg) (len : Fin 131) (L : Vector Word32 130) (c : Core) :
    restoreWords alg tag len L = some c ↔ tag = some alg ∧ len = nwords alg ∧ coreOfWords alg L = some c := by
  unfold restoreWords
  split
  · next ht =>
    split
    · next hl => simp [ht, hl]
    · next hl => simp [hl]
  · next ht => simp [ht]

/-! ### The binary64 image (R175, R182) -/

/-- The image of a numerator lies below the image of 1.0: no NaN, no infinity, not negative. -/
theorem f64OfFrac53_lt_one (n : Frac53) : (f64OfFrac53 n).toNat < 0x3ff0000000000000 := by
  unfold f64OfFrac53
  split
  · decide
  · next hn =>
    have hn0 : n.toNat ≠ 0 := fun h => hn (BitVec.eq_of_toNat_eq h)
    have hp : n.toNat.log2 < 53 := (Nat.log2_lt hn0).2 n.isLt
    have hf := Nat.mod_lt (n.toNat * 2 ^ (52 - n.toNat.log2)) (show 0 < 2 ^ 52 by decide)
    have he : (970 + n.toNat.log2) % 2 ^ 11 = 970 + n.toNat.log2 := Nat.mod_eq_of_lt (by omega)
    simp only [BitVec.toNat_append, BitVec.toNat_ofNat, he, Nat.zero_mod, Nat.zero_shiftLeft, Nat.zero_or]
    rw [← Nat.shiftLeft_add_eq_or_of_lt hf, Nat.shiftLeft_eq]
    omega

end Sys2Proof.Machine
end

