-- ==== Sys2Proof/Laws/Streams.lean ====
section
/-! SUPPORT. The word-expansion stream, the non-zero remap and repeated advances: what each repeated function gives after
`n` rounds. -/

namespace Sys2Proof.Machine

/-! ### The stream (R103) -/

theorem streamAfter_succ {w : Nat} (next : BitVec w → BitVec w) (z : BitVec w) (n : Nat) :
    streamAfter next z (n + 1) = next (streamAfter next z n) := by
  induction n generalizing z with
  | zero => rfl
  | succ n ih => rw [streamAfter, ih, streamAfter]

/-- Word `k` of the stream is the output of the step from the state after `k` steps (R103). -/
theorem getElem_streamWords {w : Nat} (out next : BitVec w → BitVec w) (z : BitVec w) (n k : Nat)
    (h : k < (streamWords out next z n).length) :
    (streamWords out next z n)[k] = out (streamAfter next z k) := by
  induction n generalizing z k with
  | zero => simp [streamWords] at h
  | succ n ih =>
    cases k with
    | zero => rfl
    | succ k => simp only [streamWords, List.getElem_cons_succ, streamAfter]; apply ih

@[simp] theorem getElem_expand32 (mode : SmMode) (z : Word32) (n k : Nat) (h : k < n) :
    (expand32 mode z n)[k] = sm32Out (streamAfter (sm32Next mode) z k) := by
  simp [expand32, getElem_streamWords]

@[simp] theorem getElem_expand64 (mode : SmMode) (z : Word64) (n k : Nat) (h : k < n) :
    (expand64 mode z n)[k] = sm64Out (streamAfter (sm64Next mode) z k) := by
  simp [expand64, getElem_streamWords]

/-! ### The remap (R104) -/

theorem nz_of_exists {w n : Nat} (v : Vector (BitVec w) n) (k : Nat) (hk : k < n) (h : v[k] ≠ 0) : nz v = v := by
  unfold nz
  rw [if_neg]
  simp only [List.all_eq_true, beq_iff_eq, Vector.mem_toList_iff]
  intro hall
  exact h (hall _ (Vector.getElem_mem hk))

theorem nz_of_zero {w n : Nat} (v : Vector (BitVec w) n) (h : ∀ k (hk : k < n), v[k] = 0) : nz v = unitWords n := by
  unfold nz
  rw [if_pos]
  simp only [List.all_eq_true, beq_iff_eq, Vector.mem_toList_iff]
  intro x hx
  obtain ⟨k, hk, rfl⟩ := Vector.getElem_of_mem hx
  exact h k hk

/-! ### Repetition -/

theorem repeated_succ {α : Type} (f : α → α) (n : Nat) (a : α) : repeated f (n + 1) a = f (repeated f n a) := by
  induction n generalizing a with
  | zero => rfl
  | succ n ih => rw [repeated, ih, repeated]

/-- Repetition is the library's iteration, which the statements use. -/
theorem repeated_eq_iterate {α : Type} (f : α → α) (n : Nat) (a : α) : repeated f n a = f^[n] a := by
  induction n generalizing a with
  | zero => rfl
  | succ n ih => exact ih (f a)

/-- The diffusion of XS4096 as an iteration, so that no proof unrolls its 512 rounds (R155). -/
theorem initialXs4096_eq_iterate (mode : SmMode) (h32 : Word32) :
    initialXs4096 mode h32 = xs4096Round^[512] (filledXs4096 mode h32) := by
  delta initialXs4096
  exact repeated_eq_iterate _ _ _

/-- Construction as an iteration of the advance (R160). -/
theorem construct_eq_iterate (cfg : Config) (alg : Alg) (h32 : Word32) (h64 : Word64) :
    construct cfg alg h32 h64 = (advanceCore cfg)^[discardRounds alg] (initialCore cfg.smMode alg h32 h64) := by
  delta construct
  exact repeated_eq_iterate _ _ _

/-- Advancing after one advance is advancing once more (R143). -/
theorem coreAfter_first (cfg : Config) (c : Core32) (n : Nat) :
    coreAfter cfg c (n + 1) = coreAfter cfg (advance32 cfg c).1 n := by
  induction n with
  | zero => rfl
  | succ n ih => rw [coreAfter, ih, coreAfter]

theorem pairCore_eq (cfg : Config) (c : Core32) : pairCore cfg c = coreAfter cfg c 2 := rfl

theorem pairFrac_eq (cfg : Config) (c : Core32) : pairFrac cfg c = pairAt cfg c 0 := rfl

theorem coreAfter_pairCore (cfg : Config) (c : Core32) (n : Nat) :
    coreAfter cfg (pairCore cfg c) n = coreAfter cfg c (n + 2) := by
  rw [coreAfter_first cfg c (n + 1), coreAfter_first cfg _ n]; rfl

theorem pairAt_succ (cfg : Config) (c : Core32) (k : Nat) : pairAt cfg c (k + 1) = pairAt cfg (pairCore cfg c) k := by
  simp only [pairAt, outputAt, coreAfter_pairCore]
  rw [show 2 * (k + 1) = 2 * k + 2 by omega, show 2 * k + 2 + 1 = 2 * k + 1 + 2 by omega]

/-! ### The bounded retry loop (R178) -/

/-- The loop ends with the first pair that is not rejected, if it is among the attempts (R178). -/
theorem tryPairs_found (cfg : Config) (attempts r : Nat) (c : Core32) (hr : r < attempts)
    (hrej : ∀ k, k < r → pairAt cfg c k = 0) (hok : pairAt cfg c r ≠ 0) :
    tryPairs cfg attempts c = .found (coreAfter cfg c (2 * (r + 1))) (pairAt cfg c r) := by
  induction attempts generalizing c r with
  | zero => omega
  | succ n ih =>
    rw [tryPairs, pairFrac_eq]
    cases r with
    | zero => rw [if_neg hok, pairCore_eq]
    | succ r =>
      rw [if_pos (hrej 0 (by omega)), ih r (pairCore cfg c) (by omega)
        (fun k hk => by rw [← pairAt_succ]; exact hrej (k + 1) (by omega)) (by rw [← pairAt_succ]; exact hok),
        coreAfter_pairCore, ← pairAt_succ]
      rfl

/-- The loop is exhausted when every pair among the attempts is rejected; all are consumed (R230). -/
theorem tryPairs_exhausted (cfg : Config) (attempts : Nat) (c : Core32)
    (hrej : ∀ k, k < attempts → pairAt cfg c k = 0) :
    tryPairs cfg attempts c = .exhausted (coreAfter cfg c (2 * attempts)) := by
  induction attempts generalizing c with
  | zero => rfl
  | succ n ih =>
    rw [tryPairs, pairFrac_eq, if_pos (hrej 0 (by omega)), ih (pairCore cfg c)
      (fun k hk => by rw [← pairAt_succ]; exact hrej (k + 1) (by omega)), coreAfter_pairCore]
    rfl

end Sys2Proof.Machine
end

