-- ==== Sys2Proof/Laws/Exec.lean ====
section
/-! SUPPORT. What a command can end as, said once for all 27: an error that changes nothing but `ERR`, a success, the
rejection of `CMP.TRY`, the retry error of `DOUBLE`, or its hang. -/

namespace Sys2Proof.Machine

/-! ### The retry loop, read backwards (R178) -/

/-- A pair the loop found is the first that was not rejected (R178). -/
theorem tryPairs_eq_found (cfg : Config) (n : Nat) (c c' : Core32) (x : Frac53) (h : tryPairs cfg n c = .found c' x) :
    ∃ r, r < n ∧ (∀ k, k < r → pairAt cfg c k = 0) ∧ pairAt cfg c r ≠ 0 ∧ c' = coreAfter cfg c (2 * (r + 1)) ∧
      x = pairAt cfg c r := by
  induction n generalizing c with
  | zero => cases h
  | succ n ih =>
    rw [tryPairs, pairFrac_eq] at h
    split at h
    · next h0 =>
      obtain ⟨r, hr, hrej, hok, hc, hx⟩ := ih _ h
      refine ⟨r + 1, by omega, ?_, by rwa [pairAt_succ], ?_, by rwa [pairAt_succ]⟩
      · intro k hk
        cases k with
        | zero => exact h0
        | succ k => rw [pairAt_succ]; exact hrej k (by omega)
      · rw [hc, coreAfter_pairCore]; rfl
    · next h0 =>
      cases h
      exact ⟨0, by omega, fun k hk => by omega, h0, rfl, rfl⟩

/-- An exhausted loop rejected every pair (R178, R230). -/
theorem tryPairs_eq_exhausted (cfg : Config) (n : Nat) (c c' : Core32) (h : tryPairs cfg n c = .exhausted c') :
    (∀ k, k < n → pairAt cfg c k = 0) ∧ c' = coreAfter cfg c (2 * n) := by
  have all : ∀ k, k < n → pairAt cfg c k = 0 := by
    induction n generalizing c with
    | zero => intro k hk; omega
    | succ n ih =>
      rw [tryPairs, pairFrac_eq] at h
      split at h
      · next h0 =>
        intro k hk
        cases k with
        | zero => exact h0
        | succ k => rw [pairAt_succ]; exact ih _ h k (by omega)
      · cases h
  rw [tryPairs_exhausted cfg n c all] at h
  cases h
  exact ⟨all, rfl⟩

/-! ### The ends of a command -/

/-- The ends of command `i` from state `s`. -/
inductive Ends (i : Instr) (s : State) : State → Prop where
  /-- an error status other than `E_RETRY` (R232) -/
  | error (e : ErrCode) (notRetry : e ≠ .retry) (cond : errorCondition i s e) : Ends i s (s.raise e)
  /-- success; `ERR` stays but for `CLR` -/
  | ok (u : State) (r f : Word64) (cond : ∀ e, ¬errorCondition i s e)
      (accepted : i = .cmpTry → compose53 s.argHigh s.argLow ≠ 0) (err : u.err = s.err ∨ i = .clr) : Ends i s (u.ok r f)
  /-- `CMP.TRY` composed zero (R229) -/
  | reject (cmd : i = .cmpTry) (zero : compose53 s.argHigh s.argLow = 0) : Ends i s (s.respond .reject 0 0)
  /-- `DOUBLE` gave up (R230) -/
  | retry (c : Core) (cmd : i = .double) (cond : errorCondition i s .retry) : Ends i s ((s.setCore c).raise .retry)
  /-- `DOUBLE` hangs (R237) -/
  | hang (c : Core32) (cmd : i = .double) (core : s.core = some (.w32 c)) (limit : s.cfg.retryLimit = .inf) :
      Ends i s s.hang

/-- A success of a command that is not `CMP.TRY`. -/
theorem Ends.success (i : Instr) (s u : State) (r f : Word64) (cond : ∀ e, ¬errorCondition i s e) (other : i ≠ .cmpTry)
    (err : u.err = s.err ∨ i = .clr) : Ends i s (u.ok r f) :=
  .ok u r f cond (fun h => absurd h other) err

/-- A command that goes on exactly while a flag is set, and else ends with one error. -/
theorem ends_if (i : Instr) (s u : State) (r f : Word64) (flag : Bool) (e : ErrCode)
    (cond : ∀ e', errorCondition i s e' ↔ e' = e ∧ flag = false) (notRetry : e ≠ .retry) (other : i ≠ .cmpTry)
    (err : u.err = s.err ∨ i = .clr) :
    ∃ t, (if flag then (.next (u.ok r f) : Result) else .next (s.raise e)) = .next t ∧ Ends i s t := by
  cases flag with
  | true => exact ⟨_, rfl, .success _ _ _ _ _ (by simp [cond]) other err⟩
  | false => exact ⟨_, rfl, .error e notRetry (by simp [cond])⟩

/-- `RESTORE` fails exactly under the three tests of its rule (R198, R227). -/
theorem restoreWords_eq_none (alg : Alg) (s : State) :
    restoreWords alg s.sbTag s.sbLen s.sb = none ↔ errorCondition (.restore alg) s .invalidState := by
  by_cases ht : s.sbTag = some alg
  · by_cases hl : s.sbLen = nwords alg
    · cases alg <;> simp [restoreWords, errorCondition, ht, hl, coreOfWords]
    · simp [restoreWords, errorCondition, ht, hl]
  · simp [restoreWords, errorCondition, ht]

theorem execDouble_ends (s : State) : ∃ t, execDouble s = .next t ∧ Ends .double s t := by
  unfold execDouble
  split
  · next h => exact ⟨_, rfl, .error .unseeded (by simp) (by simp [errorCondition, h])⟩
  · next c h => exact ⟨_, rfl, .success _ _ _ _ _ (by simp [errorCondition, h]) (by simp) (by simp)⟩
  · next c h =>
    split
    · next limit positive hl =>
      split
      · next c' n ht =>
        obtain ⟨r, hr, -, hok, -⟩ := tryPairs_eq_found _ _ _ _ _ ht
        refine ⟨_, rfl, .success _ _ _ _ _ ?_ (by simp) (by simp)⟩
        simp only [errorCondition, h, hl]
        rintro e (⟨-, h⟩ | ⟨-, d, m, q, hd, hm, hz⟩)
        · cases h
        · cases hd; cases hm; exact hok (hz r hr)
      · next c' ht =>
        exact ⟨_, rfl, .retry _ rfl (.inr ⟨rfl, c, limit, positive, h, hl, (tryPairs_eq_exhausted _ _ _ _ ht).1⟩)⟩
    · next hl =>
      split
      · exact ⟨_, rfl, .success _ _ _ _ _ (by simp [errorCondition, h, hl]) (by simp) (by simp)⟩
      · exact ⟨_, rfl, .hang c rfl h hl⟩

/-- Every command has a next state, and it is one of its ends (R225, R227, R232). -/
theorem exec_ends (i : Instr) (s : State) : ∃ t, exec i s = .next t ∧ Ends i s t := by
  cases i
  case nop => exact ⟨_, rfl, .success _ _ _ _ _ (by simp [errorCondition]) (by simp) (.inl rfl)⟩
  case clr => exact ⟨_, rfl, .success _ _ _ _ _ (by simp [errorCondition]) (by simp) (.inr rfl)⟩
  case stat => exact ⟨_, rfl, .success _ _ _ _ _ (by simp [errorCondition]) (by simp) (.inl rfl)⟩
  case rdid => exact ⟨_, rfl, .success _ _ _ _ _ (by simp [errorCondition]) (by simp) (.inl rfl)⟩
  case fnvInit => exact ⟨_, rfl, .success _ _ _ _ _ (by simp [errorCondition]) (by simp) (.inl rfl)⟩
  case smLd32 => exact ⟨_, rfl, .success _ _ _ _ _ (by simp [errorCondition]) (by simp) (.inl rfl)⟩
  case smLd64 => exact ⟨_, rfl, .success _ _ _ _ _ (by simp [errorCondition]) (by simp) (.inl rfl)⟩
  case sbClr alg => exact ⟨_, rfl, .success _ _ _ _ _ (by simp [errorCondition]) (by simp) (.inl rfl)⟩
  case sbInfo => exact ⟨_, rfl, .success _ _ _ _ _ (by simp [errorCondition]) (by simp) (.inl rfl)⟩
  case fnvByte b => exact ends_if _ _ _ _ _ s.hv .noHash (by simp [errorCondition]) (by simp) (by simp) (.inl rfl)
  case fnvInt => exact ends_if _ _ _ _ _ s.hv .noHash (by simp [errorCondition]) (by simp) (by simp) (.inl rfl)
  case fnvRd32 => exact ends_if _ _ _ _ _ s.hv .noHash (by simp [errorCondition]) (by simp) (by simp) (.inl rfl)
  case fnvRd64 => exact ends_if _ _ _ _ _ s.hv .noHash (by simp [errorCondition]) (by simp) (by simp) (.inl rfl)
  case smLdh32 => exact ends_if _ _ _ _ _ s.hv .noHash (by simp [errorCondition]) (by simp) (by simp) (.inl rfl)
  case smLdh64 => exact ends_if _ _ _ _ _ s.hv .noHash (by simp [errorCondition]) (by simp) (by simp) (.inl rfl)
  case seed alg => exact ends_if _ _ _ _ _ s.hv .noHash (by simp [errorCondition]) (by simp) (by simp) (.inl rfl)
  case smNext32 => exact ends_if _ _ _ _ _ s.z32v .noZ (by simp [errorCondition]) (by simp) (by simp) (.inl rfl)
  case smNext64 => exact ends_if _ _ _ _ _ s.z64v .noZ (by simp [errorCondition]) (by simp) (by simp) (.inl rfl)
  case cmpTry =>
    simp only [exec, execCmpTry]
    split
    · next h => exact ⟨_, rfl, .reject rfl h⟩
    · next h => exact ⟨_, rfl, .ok s _ _ (by simp [errorCondition]) (fun _ => h) (.inl rfl)⟩
  case adv =>
    simp only [exec, execAdv]
    split
    · next h => exact ⟨_, rfl, .error .unseeded (by simp) (by simp [errorCondition, h])⟩
    · next h => exact ⟨_, rfl, .success _ _ _ _ _ (by simp [errorCondition, h]) (by simp) (.inl rfl)⟩
    · next h => exact ⟨_, rfl, .success _ _ _ _ _ (by simp [errorCondition, h]) (by simp) (.inl rfl)⟩
  case draw =>
    simp only [exec, execDraw]
    split
    · next h => exact ⟨_, rfl, .error .unseeded (by simp) (by simp [errorCondition, h])⟩
    · next h => exact ⟨_, rfl, .success _ _ _ _ _ (by simp [errorCondition, h]) (by simp) (.inl rfl)⟩
    · next h => exact ⟨_, rfl, .success _ _ _ _ _ (by simp [errorCondition, h]) (by simp) (.inl rfl)⟩
  case int32 =>
    simp only [exec, execInt32]
    split
    · next h => exact ⟨_, rfl, .error .unseeded (by simp) (by simp [errorCondition, h])⟩
    · next h => exact ⟨_, rfl, .success _ _ _ _ _ (by simp [errorCondition, h]) (by simp) (.inl rfl)⟩
    · next h => exact ⟨_, rfl, .success _ _ _ _ _ (by simp [errorCondition, h]) (by simp) (.inl rfl)⟩
  case double => exact execDouble_ends s
  case snap =>
    simp only [exec, execSnap]
    split
    · next h => exact ⟨_, rfl, .error .unseeded (by simp) (by simp [errorCondition, h])⟩
    · next h => exact ⟨_, rfl, .success _ _ _ _ _ (by simp [errorCondition, h]) (by simp) (.inl rfl)⟩
  case sbRd b =>
    by_cases h : b.toNat < s.sbLen.val
    · rw [exec, execSbRd, State.sbRead_of_lt _ _ h]
      exact ⟨_, rfl, .success _ _ _ _ _ (by simp [errorCondition]; omega) (by simp) (.inl rfl)⟩
    · rw [exec, execSbRd, State.sbRead_of_le _ _ (by omega)]
      exact ⟨_, rfl, .error .sbRange (by simp) (by simp [errorCondition]; omega)⟩
  case sbPush =>
    have := s.sbLen.isLt
    simp only [exec, execSbPush]
    split
    · exact ⟨_, rfl, .success _ _ _ _ _ (by simp [errorCondition]; omega) (by simp) (.inl rfl)⟩
    · exact ⟨_, rfl, .error .sbRange (by simp) (by simp [errorCondition]; omega)⟩
  case restore alg =>
    simp only [exec, execRestore]
    split
    · next h => exact ⟨_, rfl, .error .invalidState (by simp) ((restoreWords_eq_none alg s).1 h)⟩
    · next c h =>
      refine ⟨_, rfl, .success _ _ _ _ _ (fun e he => ?_) (by simp) (.inl rfl)⟩
      obtain ⟨rfl, -⟩ := id he
      simp [(restoreWords_eq_none alg s).2 he] at h

end Sys2Proof.Machine
end

