-- ==== Sys2Proof/Laws/PerInstr.lean ====
section
/-! SUPPORT. Facts about every instruction as syntax, one lemma per constructor. -/

namespace Sys2Proof.Laws

/-- The word of every instruction is a legal command by the tables of 30_encoding.md rules R72 and R76. -/
def EncodedWordIsLegal.Statement (i : Instr) : Prop := legalWord (encode i) = true

theorem EncodedWordIsLegal.nop : EncodedWordIsLegal.Statement .nop := rfl
theorem EncodedWordIsLegal.clr : EncodedWordIsLegal.Statement .clr := rfl
theorem EncodedWordIsLegal.stat : EncodedWordIsLegal.Statement .stat := rfl
theorem EncodedWordIsLegal.rdid : EncodedWordIsLegal.Statement .rdid := rfl
theorem EncodedWordIsLegal.fnvInit : EncodedWordIsLegal.Statement .fnvInit := rfl
theorem EncodedWordIsLegal.fnvByte (imm8 : Byte) : EncodedWordIsLegal.Statement (.fnvByte imm8) := by
  revert imm8; unfold EncodedWordIsLegal.Statement; decide +kernel
theorem EncodedWordIsLegal.fnvInt : EncodedWordIsLegal.Statement .fnvInt := rfl
theorem EncodedWordIsLegal.fnvRd32 : EncodedWordIsLegal.Statement .fnvRd32 := rfl
theorem EncodedWordIsLegal.fnvRd64 : EncodedWordIsLegal.Statement .fnvRd64 := rfl
theorem EncodedWordIsLegal.smLd32 : EncodedWordIsLegal.Statement .smLd32 := rfl
theorem EncodedWordIsLegal.smLd64 : EncodedWordIsLegal.Statement .smLd64 := rfl
theorem EncodedWordIsLegal.smLdh32 : EncodedWordIsLegal.Statement .smLdh32 := rfl
theorem EncodedWordIsLegal.smLdh64 : EncodedWordIsLegal.Statement .smLdh64 := rfl
theorem EncodedWordIsLegal.smNext32 : EncodedWordIsLegal.Statement .smNext32 := rfl
theorem EncodedWordIsLegal.smNext64 : EncodedWordIsLegal.Statement .smNext64 := rfl
theorem EncodedWordIsLegal.seed (alg : Alg) : EncodedWordIsLegal.Statement (.seed alg) := by cases alg <;> rfl
theorem EncodedWordIsLegal.adv : EncodedWordIsLegal.Statement .adv := rfl
theorem EncodedWordIsLegal.draw : EncodedWordIsLegal.Statement .draw := rfl
theorem EncodedWordIsLegal.int32 : EncodedWordIsLegal.Statement .int32 := rfl
theorem EncodedWordIsLegal.double : EncodedWordIsLegal.Statement .double := rfl
theorem EncodedWordIsLegal.cmpTry : EncodedWordIsLegal.Statement .cmpTry := rfl
theorem EncodedWordIsLegal.snap : EncodedWordIsLegal.Statement .snap := rfl
theorem EncodedWordIsLegal.sbRd (imm8 : Byte) : EncodedWordIsLegal.Statement (.sbRd imm8) := by
  revert imm8; unfold EncodedWordIsLegal.Statement; decide +kernel
theorem EncodedWordIsLegal.sbClr (alg : Alg) : EncodedWordIsLegal.Statement (.sbClr alg) := by cases alg <;> rfl
theorem EncodedWordIsLegal.sbPush : EncodedWordIsLegal.Statement .sbPush := rfl
theorem EncodedWordIsLegal.restore (alg : Alg) : EncodedWordIsLegal.Statement (.restore alg) := by cases alg <;> rfl
theorem EncodedWordIsLegal.sbInfo : EncodedWordIsLegal.Statement .sbInfo := rfl

end Sys2Proof.Laws
end

