-- ==== Sys2Proof/Tests/Slice0.lean ====
section
/-! SUPPORT. Tests. Every expected value is written out from spec/: words from the encodings of 30_encoding.md, results
from the tables of 95_test_vectors.md (its section is named beside the test). A test named `test_witness_<statement>`
shows that the hypotheses of a statement can be met, one conjunct for each clause of the statement. -/

namespace Sys2Proof.Tests

open Sys2Proof Sys2Proof.Machine

-- One thread for all the small tests: a thread each runs into the memory limit of the check.
set_option Elab.async false

/-! ### Helpers -/

/-- The last response after a command. -/
def responseOf (r : Result) : Option Response :=
  match r with
  | .next t => t.rsp
  | .fault _ => none
  | .refused _ => none

/-- The core after a command. -/
def coreOf (r : Result) : Option Core :=
  match r with
  | .next t => t.core
  | .fault _ => none
  | .refused _ => none

/-- The error register after a command. -/
def errOf (r : Result) : Option ErrCode :=
  match r with
  | .next t => t.err
  | .fault _ => none
  | .refused _ => none

/-- A success with a result and no image. -/
def okWith (res : Word64) : Option Response := some ⟨.ok, res, 0⟩

/-- The block after the seed bytes of "seed": section 3.1. -/
def seeded : State := { State.reset with hv := true, h32 := 0x5045bcac, h64 := 0x2cfad118d3ecc02c }

/-- A block with a core. -/
def withCore (c : Core) : State := { State.reset with core := some c }

/-- A block with an operand at its port. -/
def withArg (arg : Word64) : State := { State.reset with arg := arg }

/-- A block whose expanders hold a value. -/
def withZ (mode : SmMode) (z32 : Word32) (z64 : Word64) : State :=
  { State.reset with z32v := true, z32 := z32, z64v := true, z64 := z64, cfg := { Config.default with smMode := mode } }

/-- A block whose snapshot buffer holds words. -/
def withBuffer (tag : Alg) (len : Fin 131) (words : List Word32) : State :=
  { State.reset with sbTag := some tag, sbLen := len, sb := writeWords State.reset.sb 0 words }

/-- A configuration with a finite retry limit. -/
def limited (n : Nat) (h : 0 < n) : Config := { Config.default with retryLimit := .finite n h }

/-- An XS128 core. -/
def xs128 (x y z w : Word32) : Core := .w32 (.xs128 ⟨x, y, z, w⟩)

/-- An XO128PP core. -/
def xo128pp (a b c d : Word32) : Core := .w32 (.xo128pp ⟨a, b, c, d⟩)

/-- The table `X[k] = k + 1` of section 3.3. -/
def table128 : Vector Word32 128 := Vector.ofFn fun k => BitVec.ofNat 32 (k.val + 1)

/-- The table `X[k] = k + 1` of section 3.3. -/
def table8 : Vector Word32 8 := #v[1, 2, 3, 4, 5, 6, 7, 8]

/-! ### Well-formed words: each check refuses an ill-formed one (R77, R79, R80; section 3.8) -/

theorem test_wf_accepts : legalWord 0x30900000 = true ∧ legalWord 0x390000FF = true ∧ legalWord 0 = true := by decide
theorem test_wf_unknown_opcode : legalWord 0x36000000 = false ∧ legalWord 0xFF000000 = false := by decide
theorem test_wf_reserved_bits : legalWord 0x00000100 = false ∧ legalWord 0x39080005 = false := by decide
theorem test_wf_unused_alg : legalWord 0x31100000 = false ∧ legalWord 0x11100073 = false := by decide
theorem test_wf_unused_imm : legalWord 0x00000001 = false ∧ legalWord 0x30100001 = false := by decide
theorem test_wf_reserved_alg :
    legalWord 0x30000000 = false ∧ legalWord 0x30A00000 = false ∧ legalWord 0x3CF00000 = false := by decide

/-! ### Rejections by name, in the order of rule R77 -/

theorem test_decode_reserved_first : decode 0xFF000100 = .illegal .reservedBits := by decide
theorem test_decode_unknown : decode 0x3E000001 = .illegal .unknownOpcode := by decide
theorem test_decode_unused : decode 0x11100073 = .illegal .unusedField := by decide
theorem test_decode_unused_before_alg : decode 0x30000001 = .illegal .unusedField := by decide
theorem test_decode_reserved_alg : decode 0x30A00000 = .illegal .reservedAlgorithm := by decide

/-! ### The word of every command, written out from the fields of rules R71 and R76 -/

theorem test_word_nop : decode 0b00000000_0000_000000000000_00000000 = .command .nop := by decide
theorem test_word_clr : decode 0b00000001_0000_000000000000_00000000 = .command .clr := by decide
theorem test_word_stat : decode 0b00000010_0000_000000000000_00000000 = .command .stat := by decide
theorem test_word_rdid : decode 0b00000011_0000_000000000000_00000000 = .command .rdid := by decide
theorem test_word_fnvInit : decode 0b00010000_0000_000000000000_00000000 = .command .fnvInit := by decide
theorem test_word_fnvByte : decode 0b00010001_0000_000000000000_01110011 = .command (.fnvByte 0x73) := by decide
theorem test_word_fnvInt : decode 0b00010010_0000_000000000000_00000000 = .command .fnvInt := by decide
theorem test_word_fnvRd32 : decode 0b00010011_0000_000000000000_00000000 = .command .fnvRd32 := by decide
theorem test_word_fnvRd64 : decode 0b00010100_0000_000000000000_00000000 = .command .fnvRd64 := by decide
theorem test_word_smLd32 : decode 0b00100000_0000_000000000000_00000000 = .command .smLd32 := by decide
theorem test_word_smLd64 : decode 0b00100001_0000_000000000000_00000000 = .command .smLd64 := by decide
theorem test_word_smLdh32 : decode 0b00100010_0000_000000000000_00000000 = .command .smLdh32 := by decide
theorem test_word_smLdh64 : decode 0b00100011_0000_000000000000_00000000 = .command .smLdh64 := by decide
theorem test_word_smNext32 : decode 0b00100100_0000_000000000000_00000000 = .command .smNext32 := by decide
theorem test_word_smNext64 : decode 0b00100101_0000_000000000000_00000000 = .command .smNext64 := by decide
theorem test_word_seed : decode 0b00110000_0110_000000000000_00000000 = .command (.seed .xo128p) := by decide
theorem test_word_adv : decode 0b00110001_0000_000000000000_00000000 = .command .adv := by decide
theorem test_word_draw : decode 0b00110010_0000_000000000000_00000000 = .command .draw := by decide
theorem test_word_int32 : decode 0b00110011_0000_000000000000_00000000 = .command .int32 := by decide
theorem test_word_double : decode 0b00110100_0000_000000000000_00000000 = .command .double := by decide
theorem test_word_cmpTry : decode 0b00110101_0000_000000000000_00000000 = .command .cmpTry := by decide
theorem test_word_snap : decode 0b00111000_0000_000000000000_00000000 = .command .snap := by decide
theorem test_word_sbRd : decode 0b00111001_0000_000000000000_10000001 = .command (.sbRd 129) := by decide
theorem test_word_sbClr : decode 0b00111010_0011_000000000000_00000000 = .command (.sbClr .xs4096) := by decide
theorem test_word_sbPush : decode 0b00111011_0000_000000000000_00000000 = .command .sbPush := by decide
theorem test_word_restore : decode 0b00111100_1001_000000000000_00000000 = .command (.restore .sm64) := by decide
theorem test_word_sbInfo : decode 0b00111101_0000_000000000000_00000000 = .command .sbInfo := by decide

/-- The table's bits reach the decoder, and the step, as one command (R57, R71). -/
theorem test_fetch : decodeTableWord 32 0x30600000 = some (.seed .xo128p) ∧
    responseOf (step (State.reset.withFetchWord 32 0x30600000)) = some ⟨.error .noHash, 0, 0⟩ := by decide

/-! ### One command each: results of 95_test_vectors.md -/

/-- R215 -/
theorem test_nop : responseOf (exec .nop seeded) = okWith 0 := by decide
/-- R216 -/
theorem test_clr : responseOf (exec .clr seeded) = okWith 0 := by decide
/-- Program P2, the last `STAT` of block A: `HV`, `ALG = 1`, `ERR = 6`, `SBTAG = 1`, `SBLEN = 4`. -/
theorem test_stat : responseOf (exec .stat { seeded with
    core := some (xs128 0 0 0 1), err := some .sbRange, sbTag := some .xs128, sbLen := 4 }) = okWith 0x00041619 := by decide
/-- Section 3.8: `ID` with `FEEDBACK` and `(55,14,36)`. -/
theorem test_rdid : responseOf (exec .rdid { State.reset with
    cfg := { Config.default with smMode := .feedback, xoroAbc := .original } }) = okWith 0x301 := by decide
/-- Section 3.1, row `(none)`. -/
theorem test_fnvInit : responseOf (runCommands [(.fnvInit, 0), (.fnvRd32, 0)] State.reset) = okWith 0x811c9dc5 := by decide
/-- Section 3.1, row `80`: the byte is zero-extended. -/
theorem test_fnvByte : responseOf (runCommands [(.fnvInit, 0), (.fnvByte 0x80, 0), (.fnvRd64, 0)] State.reset)
    = okWith 0xaf643d4c8602915f := by decide
/-- Section 3.1, row `ef cd ab 89 67 45 23 01`: the low byte is fed first. -/
theorem test_fnvInt : responseOf (runCommands [(.fnvInit, 0), (.fnvInt, 0x0123456789abcdef), (.fnvRd32, 0)] State.reset)
    = okWith 0xe39e4e75 := by decide
/-- Section 3.1, row `73 65 65 64`. -/
theorem test_fnvRd32 : responseOf (exec .fnvRd32 seeded) = okWith 0x5045bcac := by decide
/-- Section 3.1, row `73 65 65 64`. -/
theorem test_fnvRd64 : responseOf (exec .fnvRd64 seeded) = okWith 0x2cfad118d3ecc02c := by decide
/-- Section 3.2: start `0xffffffff`; the upper half of `ARG` is ignored (R59). -/
theorem test_smLd32 : responseOf (runCommands [(.smLd32, 0xabcdef01ffffffff), (.smNext32, 0)] State.reset)
    = okWith 0x36deb503 := by decide
/-- Section 3.2: start `0`. -/
theorem test_smLd64 : responseOf (runCommands [(.smLd64, 0), (.smNext64, 0), (.smNext64, 0)] State.reset)
    = okWith 0x6e789e6aa1b965f4 := by decide
/-- Section 3.2: start `0x5045bcac`. -/
theorem test_smLdh32 : responseOf (runCommands [(.smLdh32, 0), (.smNext32, 0)] seeded) = okWith 0x097e92cc := by decide
/-- Section 3.6, SM64: `z` is `H64`. -/
theorem test_smLdh64 : responseOf (runCommands [(.smLdh64, 0), (.smNext64, 0)] seeded)
    = okWith 0x04fc6ff10b8479ed := by decide
/-- Section 3.2, `FEEDBACK`, start `0`, second output. -/
theorem test_smNext32_feedback : responseOf (runCommands [(.smNext32, 0), (.smNext32, 0)] (withZ .feedback 0 0))
    = okWith 0xd3d29f24 := by decide
/-- Section 3.2, `FEEDBACK`, start `0`, second output. -/
theorem test_smNext64_feedback : responseOf (runCommands [(.smNext64, 0), (.smNext64, 0)] (withZ .feedback 0 0))
    = okWith 0xa706dd2f4d197e6f := by decide
/-- Section 3.6, `XO128PP`, the ready state. -/
theorem test_seed_xo128pp : coreOf (exec (.seed .xo128pp) seeded)
    = some (xo128pp 0xedc4d441 0x5beaf97a 0x04de40b0 0x5511999b) := by decide +kernel
/-- Section 3.6, `XS4096`, the first `ADV` output after the diffusion. -/
theorem test_seed_xs4096 : responseOf (runCommands [(.seed .xs4096, 0), (.adv, 0)] seeded)
    = okWith 0x581c5715 := by decide +kernel
/-- Section 3.3, XS4096, row 1: the index wraps. -/
theorem test_adv_xs4096 : responseOf (exec .adv (withCore (.w32 (.xs4096 ⟨table128, 127, 0⟩))))
    = okWith 0x61cf279a := by decide +kernel
/-- Section 3.4, XORO128P, `(55,14,36)`. -/
theorem test_adv_xoro128p : coreOf (runCommands [(.adv, 0), (.adv, 0), (.adv, 0), (.adv, 0)]
    { withCore (.w64 (.xoro128p ⟨1, 2⟩)) with cfg := { Config.default with xoroAbc := .original } })
    = some (.w64 (.xoro128p ⟨0x2e94b245100ca301, 0x0c4c360a080fe103⟩)) := by decide +kernel
/-- Program P1, `DRAW`. -/
theorem test_draw32 : responseOf (exec .draw
    (withCore (.w32 (.xo128p ⟨0x097e92cc, 0xe403840a, 0xcbb744a1, 0x5c6e9e55⟩))))
    = some ⟨.ok, 0x65ed3121, 0x3fd97b4c48400000⟩ := by decide +kernel
/-- Section 3.5: a 64-bit draw of `0xffffffffffffffff`. -/
theorem test_draw64 : responseOf (exec .draw (withCore (.w64 (.xoro128p ⟨0xfffffffffffffffe, 1⟩))))
    = some ⟨.ok, 0xffffffffffffffff, 0x3fefffffffffffff⟩ := by decide +kernel
/-- Section 3.5: raw `0x80000000`. -/
theorem test_int32 : responseOf (exec .int32 (withCore (.w32 (.xo128p ⟨0x80000000, 1, 2, 0⟩))))
    = okWith 0xffffffff80000000 := by decide +kernel
/-- Section 3.5: raw `0x00000000ffffffff` on a 64-bit core. -/
theorem test_int32_of_64 : responseOf (exec .int32 (withCore (.w64 (.xoro128p ⟨0xffffffff, 0⟩)))) = okWith 0 := by
  decide +kernel
/-- Program P3: the first pair is rejected. -/
theorem test_double32 : responseOf (exec .double (withCore (xs128 0 0 1 0)))
    = some ⟨.ok, 0x0000000100000809, 0x3ea0000080900000⟩ := by decide +kernel
/-- Section 3.5: a 64-bit `DOUBLE` of raw `0x7ff` is zero, not rejected. -/
theorem test_double64 : responseOf (exec .double (withCore (.w64 (.xoro128p ⟨0x7ff, 0⟩)))) = okWith 0 := by
  decide +kernel
/-- Section 3.5: `ARG = 0x123456789abcdef0`. -/
theorem test_cmpTry : responseOf (exec .cmpTry (withArg 0x123456789abcdef0))
    = some ⟨.ok, 0x0002468a9abcdef0, 0x3fb23454d5e6f780⟩ := by decide +kernel
/-- Section 3.5: `ARG = 0x000007ff00000000`. -/
theorem test_cmpTry_reject : responseOf (exec .cmpTry (withArg 0x000007ff00000000)) = some ⟨.reject, 0, 0⟩ := by
  decide +kernel
/-- Program P2, `SNAP` and `SB.RD 3`. -/
theorem test_snap : responseOf (runCommands [(.snap, 0), (.sbRd 3, 0)]
    (withCore (xs128 0x25e3d430 0xcc4ca293 0xfda763ec 0xe1108bc0))) = okWith 0xe1108bc0 := by decide +kernel
/-- Program P2, `SB.RD 4`. -/
theorem test_sbRd_range : responseOf (exec (.sbRd 4) (withBuffer .xs128 4 [1, 2, 3, 4]))
    = some ⟨.error .sbRange, 0, 0⟩ := by decide +kernel
/-- R201, R203: `SB.CLR XS4096` leaves the buffer empty. -/
theorem test_sbClr : responseOf (runCommands [(.sbClr .xs4096, 0), (.sbInfo, 0)] (withBuffer .xs128 4 [1, 2, 3, 4]))
    = okWith 0x0003 := by decide +kernel
/-- R202: a push takes the low word of `ARG`. -/
theorem test_sbPush : responseOf (runCommands [(.sbPush, 0xffffffff25e3d430), (.sbRd 4, 0)]
    (withBuffer .xs128 4 [1, 2, 3, 4])) = okWith 0x25e3d430 := by decide +kernel
/-- R202: a push on a full buffer. -/
theorem test_sbPush_full : responseOf (exec .sbPush (withBuffer .xs4096 130 [])) = some ⟨.error .sbRange, 0, 0⟩ := by
  decide +kernel
/-- R55, R198: the low half of a 64-bit word comes first. -/
theorem test_restore : coreOf (exec (.restore .sm64) (withBuffer .sm64 2 [0xd3ecc02c, 0x2cfad118]))
    = some (.w64 (.sm64 0x2cfad118d3ecc02c)) := by decide +kernel
/-- R196, R198: an index word of 8 is out of range for XS7. -/
theorem test_restore_index : responseOf (exec (.restore .xs7) (withBuffer .xs7 9 [1, 2, 3, 4, 5, 6, 7, 8, 8]))
    = some ⟨.error .invalidState, 0, 0⟩ := by decide +kernel
/-- Program P2, `SB.INFO`. -/
theorem test_sbInfo : responseOf (exec .sbInfo (withBuffer .xs128 4 [])) = okWith 0x0401 := by decide +kernel
/-- R235: the example of a nested error. -/
theorem test_nesting : errOf (execWord 0x7F000000 { State.reset with err := some .unseeded }) = some .unseeded ∧
    responseOf (execWord 0x7F000000 { State.reset with err := some .unseeded }) = some ⟨.error .illegal, 0, 0⟩ := by
  decide

/-! ### The hypotheses of the statements can be met -/

/-- A block with one input of the host to come. -/
def facing (x : HostInput) (s : State) : State := { s with inbox := [x] }

theorem test_witness_OpcodeRowsNeverOverlap :
    (⟨0x3C, .a⟩ : OpRow) ∈ opRows ∧ OpRow.selects ⟨0x3C, .a⟩ 0x3CF00000 = true := by decide

theorem test_witness_IllegalWordEndsWithIllegal :
    (facing (.command 0x7F000000 5) State.reset).inbox = .command 0x7F000000 5 :: [] ∧
    (facing (.command 0x7F000000 5) State.reset).hung = false ∧ legalWord 0x7F000000 = false := by decide

theorem test_witness_StepRunsTheDecodedCommand :
    (facing (.command 0x31000000 5) State.reset).inbox = .command 0x31000000 5 :: [] ∧
    (facing (.command 0x31000000 5) State.reset).hung = false ∧ decode 0x31000000 = .command .adv := by decide

theorem test_witness_IdleAndHungStepsChangeNothing :
    State.reset.inbox = [] ∧
    (facing (.command 0 5) { State.reset with hung := true }).inbox = .command 0 5 :: [] ∧
    (facing (.command 0 5) { State.reset with hung := true }).hung = true := by decide

theorem test_witness_ResetInputResetsTheBlock :
    (facing .reset { seeded with hung := true }).inbox = .reset :: [] := by decide

theorem test_witness_RdidReturnsTheIdWord :
    Config.default.smMode = .counter ∧ Config.default.xoroAbc = .current ∧
    ({ Config.default with smMode := .feedback } : Config).smMode = .feedback ∧
    ({ Config.default with xoroAbc := .original } : Config).xoroAbc = .original := by decide

/-- The clauses of every statement that asks whether a hash exists. -/
theorem test_witness_FnvByteFoldsBothAccumulators : seeded.hv = true ∧ State.reset.hv = false := by decide
theorem test_witness_FnvIntIsEightFnvBytes :
    ({ seeded with arg := 0x0123456789abcdef } : State).hv = true ∧ State.reset.hv = false := by decide
theorem test_witness_FnvReadsReturnTheAccumulators : seeded.hv = true ∧ State.reset.hv = false := by decide
theorem test_witness_ExpanderLoads : seeded.hv = true ∧ State.reset.hv = false := by decide
theorem test_witness_NextCommandsReadOutTheExpansion : seeded.hv = true := by decide
theorem test_witness_SeededSplitMixCoresGiveTheExpansion : seeded.hv = true := by decide
theorem test_witness_SeedBuildsTheCoreOfTheHash : seeded.hv = true ∧ State.reset.hv = false := by decide
theorem test_witness_SeedNeverLeavesAZeroRegister : seeded.hv = true := by decide

theorem test_witness_SmNextCommandsStepTheStreams :
    ((withZ .counter 0x61c88647 0).z32v = true ∧ (withZ .counter 0x61c88647 0).cfg.smMode = .counter) ∧
    ((withZ .feedback 0x61c88647 0).z32v = true ∧ (withZ .feedback 0x61c88647 0).cfg.smMode = .feedback) ∧
    ((withZ .counter 0 0x61c8864680b583eb).z64v = true ∧ (withZ .feedback 0 0x61c8864680b583eb).z64v = true) ∧
    State.reset.z32v = false ∧ State.reset.z64v = false := by decide

theorem test_witness_TwoSuccessiveOutputsAreNeverBothZero :
    mix32 0 = mix32 0 ∧ mix64 0 = mix64 0 ∧ sm32Out 0x61c88647 = 0 ∧ sm64Out 0x61c8864680b583eb = 0 ∧ 2 ≤ 2 := by decide

theorem test_witness_AdvOnTheXorshiftRegisters :
    (withCore (xs128 1 2 3 4)).core = some (.w32 (.xs128 ⟨1, 2, 3, 4⟩)) ∧
    (withCore (.w32 (.xorwow ⟨1, 2, 3, 4, 5, 6⟩))).core = some (.w32 (.xorwow ⟨1, 2, 3, 4, 5, 6⟩)) := by decide

theorem test_witness_AdvOnTheXs7Table :
    (withCore (.w32 (.xs7 ⟨table8, 7⟩))).core = some (.w32 (.xs7 ⟨table8, 7⟩)) := rfl

theorem test_witness_AdvOnTheXs4096Table :
    (withCore (.w32 (.xs4096 ⟨table128, 127, 0⟩))).core = some (.w32 (.xs4096 ⟨table128, 127, 0⟩)) := rfl

theorem test_witness_AdvOnTheXoshiroAndXoroshiroCores :
    (withCore (xo128pp 1 2 3 4)).core = some (.w32 (.xo128pp ⟨1, 2, 3, 4⟩)) ∧
    (withCore (.w32 (.xo128p ⟨1, 2, 3, 4⟩))).core = some (.w32 (.xo128p ⟨1, 2, 3, 4⟩)) ∧
    (withCore (.w64 (.xoro128p ⟨1, 2⟩))).core = some (.w64 (.xoro128p ⟨1, 2⟩)) ∧
    (withCore (.w64 (.xoro128p ⟨1, 2⟩))).cfg.xoroAbc = .current ∧
    ({ withCore (.w64 (.xoro128p ⟨1, 2⟩)) with cfg := { Config.default with xoroAbc := .original } } : State).cfg.xoroAbc
      = .original := by decide

/-- The clauses of every statement about draws: a 32-bit core, a 64-bit core, none. -/
theorem test_witness_AdvReturnsTheRawOutput :
    (withCore (xs128 1 2 3 4)).core = some (.w32 (.xs128 ⟨1, 2, 3, 4⟩)) ∧
    (withCore (.w64 (.sm64 0))).core = some (.w64 (.sm64 0)) ∧ State.reset.core = none := by decide
theorem test_witness_DrawReturnsTheFraction :
    (withCore (xs128 1 2 3 4)).core = some (.w32 (.xs128 ⟨1, 2, 3, 4⟩)) ∧
    (withCore (.w64 (.sm64 0))).core = some (.w64 (.sm64 0)) ∧ State.reset.core = none := by decide
theorem test_witness_Int32ReturnsTheSignedWord :
    (withCore (xs128 1 2 3 4)).core = some (.w32 (.xs128 ⟨1, 2, 3, 4⟩)) ∧
    (withCore (.w64 (.sm64 0))).core = some (.w64 (.sm64 0)) ∧ State.reset.core = none := by decide
theorem test_witness_DoubleOnA64BitCoreIsOneAdvance :
    (withCore (.w64 (.xoro128p ⟨0x7ff, 0⟩))).core = some (.w64 (.xoro128p ⟨0x7ff, 0⟩)) ∧ State.reset.core = none := by
  decide
theorem test_witness_SnapCopiesTheCoreIntoTheBuffer :
    (withCore (.w32 (.xs4096 ⟨table128, 127, 0⟩))).core = some (.w32 (.xs4096 ⟨table128, 127, 0⟩)) ∧
    State.reset.core = none := ⟨rfl, rfl⟩

/-- The boundary of the rejection: `a = 0x7ff` and `a = 0x800` with `b = 0`. -/
theorem test_witness_CmpTryComposesOrRejects :
    ((0 : Frac53).toNat = (0x000007ff00000000 : Word64).toNat / 2 ^ 43 * 2 ^ 32 + (0x000007ff00000000 : Word64).toNat % 2 ^ 32) ∧
    ((0x100000000 : Frac53).toNat =
      (0x0000080000000000 : Word64).toNat / 2 ^ 43 * 2 ^ 32 + (0x0000080000000000 : Word64).toNat % 2 ^ 32) ∧
    (0x100000000 : Frac53) ≠ 0 := by decide

theorem test_witness_ComposedValueIsZeroExactlyWhen :
    (0x800 : Word32).toNat / 2 ^ 11 = (0xfff : Word32).toNat / 2 ^ 11 ∧ (0x800 : Word32) ≠ 0xfff := by decide

theorem test_witness_BinaryImageHasExactlyTheValue : (1 : Frac53) ≠ 0 ∧ (0x1fffffffffffff : Frac53) ≠ 0 := by decide

/-- Program P3's core rejects its first pair and accepts its second: `r = 1`, without a limit and with limit 2. -/
theorem test_witness_DoubleRespondsWithTheFirstAcceptedPair :
    (∀ k, k < 1 → pairAt Config.default (.xs128 ⟨0, 0, 1, 0⟩) k = 0) ∧
    pairAt Config.default (.xs128 ⟨0, 0, 1, 0⟩) 1 ≠ 0 ∧ Config.default.retryLimit = .inf ∧
    (∀ k, k < 1 → pairAt (limited 2 (by decide)) (.xs128 ⟨0, 0, 1, 0⟩) k = 0) ∧
    pairAt (limited 2 (by decide)) (.xs128 ⟨0, 0, 1, 0⟩) 1 ≠ 0 ∧
    (limited 2 (by decide)).retryLimit = .finite 2 (by decide) ∧ 1 < 2 := by decide +kernel

theorem test_witness_DoubleHangsExactlyWhenEveryPairIsRejected :
    (withCore (xs128 0 0 0 0)).core = some (.w32 (.xs128 ⟨0, 0, 0, 0⟩)) ∧
    (withCore (xs128 0 0 1 0)).core = some (.w32 (.xs128 ⟨0, 0, 1, 0⟩)) ∧
    (withCore (xs128 0 0 1 0)).cfg.retryLimit = .inf := by decide

/-- Limit 1 on a core that rejects one pair, and limit 3 on the degenerate core of program P3. -/
theorem test_witness_DoubleGivesUpAtTheRetryLimit :
    (∀ k, k < 1 → pairAt (limited 1 (by decide)) (.xs128 ⟨0, 0, 1, 0⟩) k = 0) ∧
    (∀ k, k < 3 → pairAt (limited 3 (by decide)) (.xs128 ⟨0, 0, 0, 0⟩) k = 0) ∧
    (limited 3 (by decide)).retryLimit = .finite 3 (by decide) := by decide +kernel

theorem test_witness_ZeroCoresOutputZeroForEverAndHangDouble :
    registerZero (xs128 0 0 0 0) = true ∧ (xs128 0 0 0 0).alg = .xs128 ∧
    registerZero (.w32 (.xs7 ⟨Vector.replicate 8 0, 7⟩)) = true ∧
    registerZero (xo128pp 0 0 0 0) = true ∧ (xo128pp 0 0 0 0).alg = .xo128pp ∧
    registerZero (.w32 (.xo128p ⟨0, 0, 0, 0⟩)) = true ∧ (withCore (xs128 0 0 0 0)).cfg.retryLimit = .inf := by
  decide +kernel

/-- Each clause: `DRAW`, `DOUBLE` on either width, `INT32`, with their successes. -/
theorem test_witness_DrawsStayInTheirRanges :
    (∃ t r f, exec .draw (withCore (xs128 1 2 3 4)) = .next t ∧ t.rsp = some ⟨.ok, r, f⟩) ∧
    (∃ t r f, exec .double (withCore (xs128 1 2 3 4)) = .next t ∧ t.rsp = some ⟨.ok, r, f⟩) ∧
    (∃ t r f, exec .double (withCore (.w64 (.sm64 0))) = .next t ∧ t.rsp = some ⟨.ok, r, f⟩) ∧
    (∃ t r f, exec .int32 (withCore (xs128 1 2 3 4)) = .next t ∧ t.rsp = some ⟨.ok, r, f⟩) := by
  have success (i : Instr) (s : State)
      (h : (match responseOf (exec i s) with | some ⟨.ok, _, _⟩ => true | _ => false) = true) :
      ∃ t r f, exec i s = .next t ∧ t.rsp = some ⟨.ok, r, f⟩ := by
    cases e : exec i s with
    | next t =>
      simp only [responseOf, e] at h
      split at h
      · next r f hr => exact ⟨t, r, f, rfl, hr⟩
      · cases h
    | fault r => simp [responseOf, e] at h
    | refused r => simp [responseOf, e] at h
  exact ⟨success _ _ (by decide +kernel), success _ _ (by decide +kernel), success _ _ (by decide +kernel),
    success _ _ (by decide +kernel)⟩

/-- Both clauses, with and without an error: the last index of a full buffer and the one after it, a legal and an illegal
word. -/
theorem test_witness_ErrorStatusesAreThoseOfTheTable :
    (∃ t, exec (.sbRd 129) (withBuffer .xs4096 130 []) = .next t) ∧
    (∃ t, exec (.sbRd 130) (withBuffer .xs4096 130 []) = .next t) ∧
    (∃ t, execWord 0x32000000 State.reset = .next t) ∧ (∃ t, execWord 0x7F000000 State.reset = .next t) :=
  ⟨⟨_, rfl⟩, ⟨_, rfl⟩, ⟨_, rfl⟩, ⟨_, rfl⟩⟩

/-- `ADV` with no core, and `DOUBLE` giving up: the two shapes of an error. -/
theorem test_witness_ErrorEntryRecordsTheCodeAndNothingElse :
    (∃ t, execWord 0x31000000 State.reset = .next t ∧ t.rsp = some ⟨.error .unseeded, 0, 0⟩) ∧
    (∃ t, execWord 0x34000000 { withCore (xs128 0 0 1 0) with cfg := limited 1 (by decide) } = .next t ∧
      t.rsp = some ⟨.error .retry, 0, 0⟩) := ⟨⟨_, rfl, rfl⟩, ⟨_, rfl, rfl⟩⟩

theorem test_witness_FirstErrorIsSticky :
    (State.reset.err = none ∧ ∃ t, execWord 0x31000000 State.reset = .next t ∧ t.rsp = some ⟨.error .unseeded, 0, 0⟩) ∧
    (∃ t, ({ State.reset with err := some .noZ } : State).err = some .noZ ∧
      step { State.reset with err := some .noZ } = .next t) := ⟨⟨rfl, _, rfl, rfl⟩, ⟨_, rfl, rfl⟩⟩

/-- The boundaries: index 129 of 130 words, index 130, a push at 129 words and at 130. -/
theorem test_witness_BufferCommandsReadAndAppend :
    ((129 : Byte).toNat < 130 ∧ (129 : Byte).toNat < (withBuffer .xs4096 130 []).sbLen.val) ∧
    (withBuffer .xs4096 130 []).sbLen.val ≤ (130 : Byte).toNat ∧ (withBuffer .xs4096 129 []).sbLen.val < 130 ∧
    (withBuffer .xs4096 130 []).sbLen.val = 130 := by decide

/-- The index words at their bounds: XS7 with 7 and with 8, XS4096 with 127 and with 128; a wrong tag. -/
theorem test_witness_RestoreTakesTheRightShapeOnly :
    (let s := withBuffer .xs7 9 [1, 2, 3, 4, 5, 6, 7, 8, 7]
     s.sbTag = some .xs7 ∧ s.sbLen = nwords .xs7 ∧ s.sb[8].toNat ≤ 7) ∧
    (let s := withBuffer .xs7 9 [1, 2, 3, 4, 5, 6, 7, 8, 8]
     ¬s.sb[8].toNat ≤ 7) ∧
    (let s := withBuffer .xs4096 130 (List.replicate 128 1 ++ [127, 0])
     s.sbTag = some .xs4096 ∧ s.sbLen = nwords .xs4096 ∧ s.sb[128].toNat ≤ 127) ∧
    (let s := withBuffer .xs4096 130 (List.replicate 128 1 ++ [128, 0])
     ¬s.sb[128].toNat ≤ 127) ∧
    (withBuffer .xs128 4 []).sbTag ≠ some .xorwow := by decide +kernel

theorem test_witness_RestoreWordsInvertsSnapWords :
    restoreWords .sm64 (some .sm64) 2 (withBuffer .sm64 2 [0xd3ecc02c, 0x2cfad118]).sb
      = some (.w64 (.sm64 0x2cfad118d3ecc02c)) := by decide +kernel

theorem test_witness_RestoreAfterSnapRepeatsTheDraws :
    (withCore (xs128 1 2 3 4)).core = some (xs128 1 2 3 4) ∧ (withCore (xs128 1 2 3 4)).hung = false ∧
    ∃ t t', exec .snap (withCore (xs128 1 2 3 4)) = .next t ∧
      (∀ p ∈ [((.adv, 0) : Instr × Word64), (.double, 0)], isDraw p.1 = true) ∧
      runCommands [(.adv, 0), (.double, 0)] t = .next t' ∧ t'.hung = false ∧
      (∀ p ∈ [((.int32, 0) : Instr × Word64)], isDraw p.1 = true) :=
  ⟨rfl, rfl, _, _, rfl, by decide, rfl, rfl, by decide⟩

/-- Two states that differ in `H32` and in a word of the buffer, which neither may read. -/
theorem test_witness_UnreadableContentsAreNeverObserved :
    State.reset.Agrees { State.reset with h32 := 1, clears := 7 } ∧ ∃ t, step State.reset = .next t := by
  refine ⟨?_, _, rfl⟩
  constructor <;> simp [State.reset]

theorem test_witness_EveryStepKeepsTheInvariant : State.reset.Inv ∧ ∃ t, step State.reset = .next t := by
  refine ⟨?_, _, rfl⟩
  constructor <;> simp [State.reset]

/-- One command for each group of registers the statement names. -/
theorem test_witness_RegistersAreWrittenOnlyByTheirCommands :
    (∃ t, exec .fnvInit State.reset = .next t ∧ t.hv ≠ State.reset.hv) ∧
    (∃ t, exec .smLd32 State.reset = .next t ∧ t.z32v ≠ State.reset.z32v) ∧
    (∃ t, exec .smLd64 State.reset = .next t ∧ t.z64v ≠ State.reset.z64v) ∧
    (∃ t, exec .adv (withCore (.w64 (.sm64 0))) = .next t ∧ t.core ≠ (withCore (.w64 (.sm64 0))).core) ∧
    (∃ t, exec (.restore .sm64) (withBuffer .sm64 2 [1, 2]) = .next t ∧ t.alg ≠ (withBuffer .sm64 2 [1, 2]).alg) ∧
    (∃ t, exec (.sbClr .sm64) State.reset = .next t ∧ t.sbTag ≠ State.reset.sbTag) :=
  ⟨⟨_, rfl, by decide⟩, ⟨_, rfl, by decide⟩, ⟨_, rfl, by decide⟩, ⟨_, rfl, by decide +kernel⟩,
    ⟨_, rfl, by decide +kernel⟩, ⟨_, rfl, by decide⟩⟩

theorem test_witness_PlatformCommandsTouchOneBlock :
    ∃ q, (Platform.step ⟨[facing (.command 0x10000000 0) State.reset, State.reset]⟩ ⟨0, by decide⟩) = .next q := ⟨_, rfl⟩

theorem test_witness_SeedBytesRunsToTheConstructedCore :
    ∃ s : State, s.hung = false ∧ s.inbox = expandPseudo (.seedBytes .xo128p [0x73, 0x65, 0x65, 0x64]) :=
  ⟨{ State.reset with inbox := expandPseudo (.seedBytes .xo128p [0x73, 0x65, 0x65, 0x64]) }, rfl, rfl⟩

end Sys2Proof.Tests
end

/-! ## The single draws (45_draw_facade.md rules R171 to R174) -/

section
namespace Sys2Proof.Machine

theorem exec_single_draw_unseeded {i : Instr} (hi : i = .adv ∨ i = .draw ∨ i = .int32) {s : State} (hc : s.core = none) :
    exec i s = .next (s.raise .unseeded) := by
  rcases hi with rfl | rfl | rfl
  · simp only [exec, execAdv, hc]
  · simp only [exec, execDraw, hc]
  · simp only [exec, execInt32, hc]

/-- `ADV`, `DRAW` and `INT32` advance the core once; their results are made of the configuration and the core alone. -/
theorem exec_single_draw {i : Instr} (hi : i = .adv ∨ i = .draw ∨ i = .int32) (cfg : Config) (c : Core) :
    ∃ r f, ∀ s : State, s.core = some c → s.cfg = cfg →
      exec i s = .next ((s.setCore (advanceCore cfg c)).ok r f) := by
  rcases hi with rfl | rfl | rfl <;> rcases c with c | c
  · exact ⟨zext32 (advance32 cfg c).2, 0, fun s hc hcfg => by rw [exec, execAdv, hc, hcfg]; rfl⟩
  · exact ⟨(advance64 cfg c).2, 0, fun s hc hcfg => by rw [exec, execAdv, hc, hcfg]; rfl⟩
  · exact ⟨zext32 (advance32 cfg c).2, f64OfFrac53 (frac53Of32 (advance32 cfg c).2),
      fun s hc hcfg => by rw [exec, execDraw, hc, hcfg]; rfl⟩
  · exact ⟨(advance64 cfg c).2, f64OfFrac53 (frac53Of64 (advance64 cfg c).2),
      fun s hc hcfg => by rw [exec, execDraw, hc, hcfg]; rfl⟩
  · exact ⟨sext32 (advance32 cfg c).2, 0, fun s hc hcfg => by rw [exec, execInt32, hc, hcfg]; rfl⟩
  · exact ⟨sext32 (highHalf (advance64 cfg c).2), 0, fun s hc hcfg => by rw [exec, execInt32, hc, hcfg]; rfl⟩

end Sys2Proof.Machine
end

/-! ## Unreadable contents (10_state.md rule R41)

The relation `State.Agrees` is kept by every update of the state, and what a command reads of agreeing states is the same;
so every command, and with it every step, takes agreeing states to agreeing states. -/

section
namespace Sys2Proof.Machine

namespace State.Agrees

variable {s t : State}

/-! ### Updates keep agreement -/

theorem setHash (h : s.Agrees t) (a : Word32) (b : Word64) : (s.setHash a b).Agrees (t.setHash a b) :=
  { h with hv := rfl, h32 := fun _ => rfl, h64 := fun _ => rfl }

theorem setZ32 (h : s.Agrees t) (z : Word32) : (s.setZ32 z).Agrees (t.setZ32 z) :=
  { h with z32v := rfl, z32 := fun _ => rfl }

theorem setZ64 (h : s.Agrees t) (z : Word64) : (s.setZ64 z).Agrees (t.setZ64 z) :=
  { h with z64v := rfl, z64 := fun _ => rfl }

theorem setCore (h : s.Agrees t) (c : Core) : (s.setCore c).Agrees (t.setCore c) := { h with core := rfl }

/-- The buffers' new words need to be equal below the new length only. -/
theorem setBuffer (h : s.Agrees t) (tag : Option Alg) (len : Fin 131) {b b' : Vector Word32 130}
    (words : ∀ k : Fin 130, k.val < len.val → b[k] = b'[k]) :
    (s.setBuffer tag len b).Agrees (t.setBuffer tag len b') :=
  { h with sbTag := rfl, sbLen := rfl, sb := words }

theorem respond (h : s.Agrees t) (st : Status) (r f : Word64) : (s.respond st r f).Agrees (t.respond st r f) :=
  { h with rsp := rfl }

theorem ok (h : s.Agrees t) (r f : Word64) : (s.ok r f).Agrees (t.ok r f) := h.respond .ok r f

theorem raise (h : s.Agrees t) (e : ErrCode) : (s.raise e).Agrees (t.raise e) :=
  { h with err := congrArg (recordFirst · e) h.err, rsp := rfl }

theorem hang (h : s.Agrees t) : s.hang.Agrees t.hang := { h with hung := rfl, rsp := rfl }

/-- After a clear no register holds a value, so the free values left in them need not be equal (R40). -/
theorem clear (h : s.Agrees t) : s.clear.Agrees t.clear where
  hv := rfl
  h32 := nofun
  h64 := nofun
  z32v := rfl
  z32 := nofun
  z64v := rfl
  z64 := nofun
  core := rfl
  err := rfl
  sbTag := rfl
  sbLen := rfl
  sb := fun k hk => absurd hk (Nat.not_lt_zero k)
  cfg := h.cfg
  arg := h.arg
  rsp := h.rsp
  inbox := h.inbox
  hung := rfl

theorem pulseReset (h : s.Agrees t) : s.pulseReset.Agrees t.pulseReset := { h.clear with rsp := rfl }

theorem setInbox (h : s.Agrees t) (l : List HostInput) : (s.setInbox l).Agrees (t.setInbox l) := { h with inbox := rfl }

theorem setArg (h : s.Agrees t) (a : Word64) : (s.setArg a).Agrees (t.setArg a) := { h with arg := rfl }

/-! ### What commands read of agreeing states is the same -/

theorem statusWord (h : s.Agrees t) : s.statusWord = t.statusWord := by
  simp only [State.statusWord, State.sbLenBits, State.seeded, State.algBits, State.alg, h.sbLen, h.sbTag, h.err, h.core,
    h.z64v, h.z32v, h.hv]

theorem bufferInfo (h : s.Agrees t) : s.bufferInfo = t.bufferInfo := by
  simp only [State.bufferInfo, State.sbLenBits, h.sbLen, h.sbTag]

theorem arg64 (h : s.Agrees t) : s.arg64 = t.arg64 := h.arg

theorem argLow (h : s.Agrees t) : s.argLow = t.argLow := by simp only [State.argLow, h.arg]

theorem argHigh (h : s.Agrees t) : s.argHigh = t.argHigh := by simp only [State.argHigh, h.arg]

theorem sbRead (h : s.Agrees t) (k : Nat) : s.sbRead k = t.sbRead k := by
  by_cases hk : k < s.sbLen.val
  · rw [s.sbRead_of_lt k hk, t.sbRead_of_lt k (h.sbLen ▸ hk)]
    exact congrArg some (h.sb ⟨k, by have := s.sbLen.isLt; omega⟩ hk)
  · rw [s.sbRead_of_le k (by omega), t.sbRead_of_le k (by rw [← h.sbLen]; omega)]

end State.Agrees

/-- The core of a buffer depends on the words below `NWORDS` only (R196, R198). -/
theorem coreOfWords_congr (alg : Alg) {L M : Vector Word32 130}
    (words : ∀ k : Fin 130, k.val < (nwords alg).val → L[k] = M[k]) : coreOfWords alg L = coreOfWords alg M := by
  have word (k : Nat) (hk : k < (nwords alg).val) : L[k]'(by omega) = M[k]'(by omega) := words ⟨k, by omega⟩ hk
  have table (m : Nat) (hm : 0 + m ≤ 130) (hle : m ≤ (nwords alg).val) : wordsAt L 0 m hm = wordsAt M 0 m hm := by
    refine Vector.ext fun j hj => ?_
    simpa using word j (by omega)
  cases alg <;> simp_all [coreOfWords]

theorem State.Agrees.restoreWords {s t : State} (h : s.Agrees t) (alg : Alg) :
    restoreWords alg s.sbTag s.sbLen s.sb = restoreWords alg t.sbTag t.sbLen t.sb := by
  unfold Machine.restoreWords
  rw [← h.sbTag, ← h.sbLen]
  split
  · split
    · next hlen => exact coreOfWords_congr alg fun k hk => h.sb k (hlen ▸ hk)
    · rfl
  · rfl

/-! ### Every command takes agreeing states to agreeing states -/

/-- Two runs of a command both have a next state, and these agree. -/
def ResultsAgree (r r' : Result) : Prop := ∃ s t, r = .next s ∧ r' = .next t ∧ s.Agrees t

theorem ResultsAgree.next {s t : State} (h : s.Agrees t) : ResultsAgree (.next s) (.next t) := ⟨s, t, rfl, rfl, h⟩

/-- A command that goes on exactly while a flag is set, and else ends with one error: what it does while the flag is set
may use it. -/
theorem ResultsAgree.guarded {s t u v : State} {flag flag' : Bool} (e : ErrCode) (h : s.Agrees t) (hf : flag = flag')
    (go : flag = true → u.Agrees v) :
    ResultsAgree (if flag then .next u else .next (s.raise e)) (if flag' then .next v else .next (t.raise e)) := by
  subst hf
  cases flag with
  | true => exact .next (go rfl)
  | false => exact .next (h.raise e)

section
variable {s t : State} (h : s.Agrees t)
include h

theorem execFnvByte_agrees (b : Byte) : ResultsAgree (execFnvByte b s) (execFnvByte b t) :=
  .guarded .noHash h h.hv fun hv => by
    simp only [State.foldBytes, h.h32 hv, h.h64 hv]
    exact (h.setHash _ _).ok _ _

theorem execFnvInt_agrees : ResultsAgree (execFnvInt s) (execFnvInt t) :=
  .guarded .noHash h h.hv fun hv => by
    simp only [State.foldBytes, h.h32 hv, h.h64 hv, h.arg64]
    exact (h.setHash _ _).ok _ _

theorem execFnvRd32_agrees : ResultsAgree (execFnvRd32 s) (execFnvRd32 t) :=
  .guarded .noHash h h.hv fun hv => by rw [h.h32 hv]; exact h.ok _ _

theorem execFnvRd64_agrees : ResultsAgree (execFnvRd64 s) (execFnvRd64 t) :=
  .guarded .noHash h h.hv fun hv => by rw [h.h64 hv]; exact h.ok _ _

theorem execSmLdh32_agrees : ResultsAgree (execSmLdh32 s) (execSmLdh32 t) :=
  .guarded .noHash h h.hv fun hv => by rw [h.h32 hv]; exact (h.setZ32 _).ok _ _

theorem execSmLdh64_agrees : ResultsAgree (execSmLdh64 s) (execSmLdh64 t) :=
  .guarded .noHash h h.hv fun hv => by rw [h.h64 hv]; exact (h.setZ64 _).ok _ _

theorem execSmNext32_agrees : ResultsAgree (execSmNext32 s) (execSmNext32 t) :=
  .guarded .noZ h h.z32v fun hz => by rw [h.z32 hz, h.cfg]; exact (h.setZ32 _).ok _ _

theorem execSmNext64_agrees : ResultsAgree (execSmNext64 s) (execSmNext64 t) :=
  .guarded .noZ h h.z64v fun hz => by rw [h.z64 hz, h.cfg]; exact (h.setZ64 _).ok _ _

theorem execSeed_agrees (alg : Alg) : ResultsAgree (execSeed alg s) (execSeed alg t) :=
  .guarded .noHash h h.hv fun hv => by rw [h.h32 hv, h.h64 hv, h.cfg]; exact (h.setCore _).ok _ _

theorem exec_single_draw_agrees {i : Instr} (hi : i = .adv ∨ i = .draw ∨ i = .int32) :
    ResultsAgree (exec i s) (exec i t) := by
  cases hc : t.core with
  | none =>
    rw [exec_single_draw_unseeded hi (h.core.trans hc), exec_single_draw_unseeded hi hc]
    exact .next (h.raise _)
  | some c =>
    obtain ⟨r, f, draws⟩ := exec_single_draw hi t.cfg c
    rw [draws s (h.core.trans hc) h.cfg, draws t hc rfl]
    exact .next ((h.setCore _).ok _ _)

theorem execDouble_agrees : ResultsAgree (execDouble s) (execDouble t) := by
  rw [execDouble, execDouble, h.core, h.cfg]
  rcases t.core with _ | c | c
  · exact .next (h.raise _)
  · cases t.cfg.retryLimit with
    | inf =>
      dsimp only
      cases tryForever t.cfg c with
      | found c' n => exact .next ((h.setCore _).ok _ _)
      | exhausted c' => exact .next h.hang
    | finite limit positive =>
      dsimp only
      cases tryPairs t.cfg limit c with
      | found c' n => exact .next ((h.setCore _).ok _ _)
      | exhausted c' => exact .next ((h.setCore _).raise _)
  · exact .next ((h.setCore _).ok _ _)

theorem execCmpTry_agrees : ResultsAgree (execCmpTry s) (execCmpTry t) := by
  rw [execCmpTry, execCmpTry, h.argHigh, h.argLow]
  split
  · exact .next (h.respond _ _ _)
  · exact .next (h.ok _ _)

/-- The words `SNAP` does not write stay unreadable (R199). -/
theorem execSnap_agrees : ResultsAgree (execSnap s) (execSnap t) := by
  rw [execSnap, execSnap, h.core]
  cases t.core with
  | none => exact .next (h.raise _)
  | some c =>
    refine .next ((h.setBuffer _ _ fun k hk => ?_).ok _ _)
    have written : 0 ≤ k.val ∧ k.val < 0 + (snapWords c).length := by rw [snapWords_length]; omega
    simp only [Fin.getElem_fin, getElem_writeWords, dif_pos written]

theorem execSbRd_agrees (b : Byte) : ResultsAgree (execSbRd b s) (execSbRd b t) := by
  rw [execSbRd, execSbRd, h.sbRead]
  cases t.sbRead b.toNat with
  | none => exact .next (h.raise _)
  | some w => exact .next (h.ok _ _)

theorem execSbClr_agrees (alg : Alg) : ResultsAgree (execSbClr alg s) (execSbClr alg t) :=
  .next ((h.setBuffer _ _ fun k hk => absurd hk (Nat.not_lt_zero k)).ok _ _)

/-- `SB.PUSH` makes one more word readable, and that one it writes (R202). -/
theorem execSbPush_agrees : ResultsAgree (execSbPush s) (execSbPush t) := by
  simp only [execSbPush, h.sbLen, h.sbTag, h.argLow]
  split
  · refine .next ((h.setBuffer _ _ fun k hk => ?_).ok _ _)
    simp only [Fin.getElem_fin, Vector.getElem_set]
    split
    · rfl
    · next hne => exact h.sb k (by rw [h.sbLen]; simp at hk; omega)
  · exact .next (h.raise _)

theorem execRestore_agrees (alg : Alg) : ResultsAgree (execRestore alg s) (execRestore alg t) := by
  rw [execRestore, execRestore, h.restoreWords]
  cases restoreWords alg t.sbTag t.sbLen t.sb with
  | none => exact .next (h.raise _)
  | some c => exact .next ((h.setCore c).ok _ _)

/-- No command tells agreeing states apart (R41). -/
theorem exec_agrees (i : Instr) : ResultsAgree (exec i s) (exec i t) := by
  cases i with
  | nop => exact .next (h.ok _ _)
  | clr => exact .next (h.clear.ok _ _)
  | stat => rw [exec, exec, execStat, execStat, h.statusWord]; exact .next (h.ok _ _)
  | rdid => rw [exec, exec, execRdid, execRdid, h.cfg]; exact .next (h.ok _ _)
  | fnvInit => exact .next ((h.setHash _ _).ok _ _)
  | fnvByte b => exact execFnvByte_agrees h b
  | fnvInt => exact execFnvInt_agrees h
  | fnvRd32 => exact execFnvRd32_agrees h
  | fnvRd64 => exact execFnvRd64_agrees h
  | smLd32 => rw [exec, exec, execSmLd32, execSmLd32, h.argLow]; exact .next ((h.setZ32 _).ok _ _)
  | smLd64 => rw [exec, exec, execSmLd64, execSmLd64, h.arg64]; exact .next ((h.setZ64 _).ok _ _)
  | smLdh32 => exact execSmLdh32_agrees h
  | smLdh64 => exact execSmLdh64_agrees h
  | smNext32 => exact execSmNext32_agrees h
  | smNext64 => exact execSmNext64_agrees h
  | seed alg => exact execSeed_agrees h alg
  | adv => exact exec_single_draw_agrees h (.inl rfl)
  | draw => exact exec_single_draw_agrees h (.inr (.inl rfl))
  | int32 => exact exec_single_draw_agrees h (.inr (.inr rfl))
  | double => exact execDouble_agrees h
  | cmpTry => exact execCmpTry_agrees h
  | snap => exact execSnap_agrees h
  | sbRd b => exact execSbRd_agrees h b
  | sbClr alg => exact execSbClr_agrees h alg
  | sbPush => exact execSbPush_agrees h
  | restore alg => exact execRestore_agrees h alg
  | sbInfo => rw [exec, exec, execSbInfo, execSbInfo, h.bufferInfo]; exact .next (h.ok _ _)

theorem execWord_agrees (cmd : Word32) : ResultsAgree (execWord cmd s) (execWord cmd t) := by
  rw [execWord, execWord]
  cases decode cmd with
  | command i => exact exec_agrees h i
  | illegal why => exact .next (h.raise _)

theorem takeCommand_agrees (cmd : Word32) (arg : Word64) : ResultsAgree (takeCommand cmd arg s) (takeCommand cmd arg t) := by
  rw [takeCommand, takeCommand, h.hung]
  split
  · exact .next h
  · exact execWord_agrees (h.setArg arg) cmd

theorem step_agrees : ResultsAgree (step s) (step t) := by
  rw [step, step, takeInput, takeInput, h.inbox]
  rcases t.inbox with _ | ⟨⟨cmd, arg⟩ | _, rest⟩
  · exact .next h
  · exact takeCommand_agrees (h.setInbox rest) cmd arg
  · exact .next (h.setInbox rest).pulseReset

end

/-- Settles O55: every step takes agreeing states to agreeing states. -/
theorem unreadableContentsAreNeverObserved : Obligations.UnreadableContentsAreNeverObserved := by
  intro s t s' h hs
  obtain ⟨u, t', hu, ht, hut⟩ := step_agrees h
  rw [hs] at hu
  cases hu
  exact ⟨t', ht, hut⟩

end Sys2Proof.Machine
end

/-! ## Which command writes which registers (rules R21, R22, R25, R38, R183, R216)

A command writes one group of registers, by one update, and then only reports: a response, `ERR`, the hang. -/

section
namespace Sys2Proof.Machine

/-! ### The algorithm of a core is kept (R143, R160) -/

@[simp] theorem coreAfter_alg (cfg : Config) (c : Core32) (n : Nat) : (coreAfter cfg c n).alg = c.alg := by
  induction n with
  | zero => rfl
  | succ n ih => rw [coreAfter, advance32_alg, ih]

theorem initialCore_alg (mode : SmMode) (alg : Alg) (h32 : Word32) (h64 : Word64) :
    (initialCore mode alg h32 h64).alg = alg := by
  cases alg <;> rfl

/-- A constructed core has the algorithm it was constructed for (R160). -/
theorem construct_alg (cfg : Config) (alg : Alg) (h32 : Word32) (h64 : Word64) : (construct cfg alg h32 h64).alg = alg := by
  have rounds (n : Nat) (c : Core) : (repeated (advanceCore cfg) n c).alg = c.alg := by
    induction n with
    | zero => rfl
    | succ n ih => rw [repeated_succ, advanceCore_alg, ih]
  rw [construct, rounds, initialCore_alg]

theorem alg_of_tryPairs_found {cfg : Config} {n : Nat} {c c' : Core32} {x : Frac53} (h : tryPairs cfg n c = .found c' x) :
    c'.alg = c.alg := by
  obtain ⟨r, -, -, -, hc, -⟩ := tryPairs_eq_found _ _ _ _ _ h
  rw [hc, coreAfter_alg]

theorem alg_of_tryPairs_exhausted {cfg : Config} {n : Nat} {c c' : Core32} (h : tryPairs cfg n c = .exhausted c') :
    c'.alg = c.alg := by
  rw [(tryPairs_eq_exhausted _ _ _ _ h).2, coreAfter_alg]

theorem alg_of_tryForever_found {cfg : Config} {c c' : Core32} {x : Frac53} (h : tryForever cfg c = .found c' x) :
    c'.alg = c.alg := by
  unfold tryForever at h
  split at h
  · cases h
  · exact alg_of_tryPairs_found h

/-! ### The one update of a command -/

/-- The registers after command `i` from `s`, before it reports: nothing is written, or one group by a command that may. -/
inductive Writes (i : Instr) (s : State) : State → Prop where
  | nothing : Writes i s s
  | clear (cmd : i = .clr) : Writes i s s.clear
  | hash (a : Word32) (b : Word64) (cmd : i = .fnvInit ∨ i = .fnvInt ∨ ∃ b, i = .fnvByte b) : Writes i s (s.setHash a b)
  | z32 (z : Word32) (cmd : i = .smLd32 ∨ i = .smLdh32 ∨ i = .smNext32) : Writes i s (s.setZ32 z)
  | z64 (z : Word64) (cmd : i = .smLd64 ∨ i = .smLdh64 ∨ i = .smNext64) : Writes i s (s.setZ64 z)
  | draw (c c' : Core) (cmd : isDraw i = true) (core : s.core = some c) (alg : c'.alg = c.alg) : Writes i s (s.setCore c')
  | core (alg : Alg) (c : Core) (cmd : i = .seed alg ∨ i = .restore alg) (tag : c.alg = alg) : Writes i s (s.setCore c)
  | buffer (tag : Option Alg) (len : Fin 131) (sb : Vector Word32 130)
      (cmd : i = .snap ∨ i = .sbPush ∨ ∃ alg, i = .sbClr alg) : Writes i s (s.setBuffer tag len sb)

/-- The two states differ at most in the response, `ERR` and the hang. -/
def Reports (u t : State) : Prop := t = { u with err := t.err, rsp := t.rsp, hung := t.hung }

theorem reports_ok (u : State) (r f : Word64) : Reports u (u.ok r f) := rfl
theorem reports_respond (u : State) (st : Status) (r f : Word64) : Reports u (u.respond st r f) := rfl
theorem reports_raise (u : State) (e : ErrCode) : Reports u (u.raise e) := rfl
theorem reports_hang (u : State) : Reports u u.hang := rfl

/-- A command that ends in a next state, its one update made and then reported. -/
def WritesThenReports (i : Instr) (s : State) (result : Result) : Prop :=
  ∃ u t, result = .next t ∧ Writes i s u ∧ Reports u t

namespace WritesThenReports

variable {i : Instr} {s u : State}

theorem ok (w : Writes i s u) (r f : Word64) : WritesThenReports i s (.next (u.ok r f)) := ⟨u, _, rfl, w, reports_ok u r f⟩

theorem respond (w : Writes i s u) (st : Status) (r f : Word64) : WritesThenReports i s (.next (u.respond st r f)) :=
  ⟨u, _, rfl, w, reports_respond u st r f⟩

theorem raise (w : Writes i s u) (e : ErrCode) : WritesThenReports i s (.next (u.raise e)) :=
  ⟨u, _, rfl, w, reports_raise u e⟩

theorem hang (w : Writes i s u) : WritesThenReports i s (.next u.hang) := ⟨u, _, rfl, w, reports_hang u⟩

/-- A command that goes on exactly while a flag is set, and else ends with one error, having written nothing. -/
theorem guarded (w : Writes i s u) (flag : Bool) (r f : Word64) (e : ErrCode) :
    WritesThenReports i s (if flag then .next (u.ok r f) else .next (s.raise e)) := by
  cases flag with
  | true => exact .ok w r f
  | false => exact .raise .nothing e

end WritesThenReports

theorem exec_single_draw_writes {i : Instr} (hi : i = .adv ∨ i = .draw ∨ i = .int32) (s : State) :
    WritesThenReports i s (exec i s) := by
  cases hc : s.core with
  | none => rw [exec_single_draw_unseeded hi hc]; exact .raise .nothing _
  | some c =>
    obtain ⟨r, f, draws⟩ := exec_single_draw hi s.cfg c
    rw [draws s hc rfl]
    exact .ok (.draw c _ (by rcases hi with rfl | rfl | rfl <;> rfl) hc (advanceCore_alg _ _)) _ _

theorem execDouble_writes (s : State) : WritesThenReports .double s (execDouble s) := by
  have write {c c' : Core32} (hc : s.core = some (.w32 c)) (alg : c'.alg = c.alg) :
      Writes .double s (s.setCore (.w32 c')) := .draw (.w32 c) (.w32 c') rfl hc alg
  unfold execDouble
  split
  · exact .raise .nothing _
  · next c hc => exact .ok (.draw (.w64 c) _ rfl hc (advanceCore_alg s.cfg (.w64 c))) _ _
  · next c hc =>
    split
    · split
      · next ht => exact .ok (write hc (alg_of_tryPairs_found ht)) _ _
      · next ht => exact .raise (write hc (alg_of_tryPairs_exhausted ht)) _
    · split
      · next ht => exact .ok (write hc (alg_of_tryForever_found ht)) _ _
      · exact .hang .nothing

theorem execCmpTry_writes (s : State) : WritesThenReports .cmpTry s (execCmpTry s) := by
  simp only [execCmpTry]
  split
  · exact .respond .nothing _ _ _
  · exact .ok .nothing _ _

theorem execSnap_writes (s : State) : WritesThenReports .snap s (execSnap s) := by
  unfold execSnap
  split
  · exact .raise .nothing _
  · exact .ok (.buffer _ _ _ (.inl rfl)) _ _

theorem execSbRd_writes (b : Byte) (s : State) : WritesThenReports (.sbRd b) s (execSbRd b s) := by
  unfold execSbRd
  split
  · exact .ok .nothing _ _
  · exact .raise .nothing _

theorem execSbPush_writes (s : State) : WritesThenReports .sbPush s (execSbPush s) := by
  unfold execSbPush
  split
  · exact .ok (.buffer _ _ _ (.inr (.inl rfl))) _ _
  · exact .raise .nothing _

theorem execRestore_writes (alg : Alg) (s : State) : WritesThenReports (.restore alg) s (execRestore alg s) := by
  unfold execRestore
  split
  · exact .raise .nothing _
  · next c h =>
    obtain ⟨-, -, words⟩ := (restoreWords_eq_some _ _ _ _ _).1 h
    exact .ok (.core alg c (.inr rfl) (coreOfWords_alg _ _ _ words)) _ _

/-- What each of the 27 commands writes. -/
theorem exec_writes (i : Instr) (s : State) : WritesThenReports i s (exec i s) := by
  cases i with
  | nop => exact .ok .nothing _ _
  | clr => exact .ok (.clear rfl) _ _
  | stat => exact .ok .nothing _ _
  | rdid => exact .ok .nothing _ _
  | fnvInit => exact .ok (.hash _ _ (.inl rfl)) _ _
  | fnvByte b => exact .guarded (.hash _ _ (.inr (.inr ⟨b, rfl⟩))) s.hv _ _ _
  | fnvInt => exact .guarded (.hash _ _ (.inr (.inl rfl))) s.hv _ _ _
  | fnvRd32 => exact .guarded .nothing s.hv _ _ _
  | fnvRd64 => exact .guarded .nothing s.hv _ _ _
  | smLd32 => exact .ok (.z32 _ (.inl rfl)) _ _
  | smLd64 => exact .ok (.z64 _ (.inl rfl)) _ _
  | smLdh32 => exact .guarded (.z32 _ (.inr (.inl rfl))) s.hv _ _ _
  | smLdh64 => exact .guarded (.z64 _ (.inr (.inl rfl))) s.hv _ _ _
  | smNext32 => exact .guarded (.z32 _ (.inr (.inr rfl))) s.z32v _ _ _
  | smNext64 => exact .guarded (.z64 _ (.inr (.inr rfl))) s.z64v _ _ _
  | seed alg => exact .guarded (.core alg _ (.inl rfl) (construct_alg _ _ _ _)) s.hv _ _ _
  | adv => exact exec_single_draw_writes (.inl rfl) s
  | draw => exact exec_single_draw_writes (.inr (.inl rfl)) s
  | int32 => exact exec_single_draw_writes (.inr (.inr rfl)) s
  | double => exact execDouble_writes s
  | cmpTry => exact execCmpTry_writes s
  | snap => exact execSnap_writes s
  | sbRd b => exact execSbRd_writes b s
  | sbClr alg => exact .ok (.buffer _ _ _ (.inr (.inr ⟨alg, rfl⟩))) _ _
  | sbPush => exact execSbPush_writes s
  | restore alg => exact execRestore_writes alg s
  | sbInfo => exact .ok .nothing _ _

/-! ### Each group of registers -/

theorem Writes.keeps_port {i : Instr} {s u : State} (w : Writes i s u) : u.cfg = s.cfg ∧ u.arg = s.arg ∧ u.inbox = s.inbox := by
  cases w <;> exact ⟨rfl, rfl, rfl⟩

/-- Settles O58: the one update of the command leaves every other group of registers, and reporting leaves all. -/
theorem registersAreWrittenOnlyByTheirCommands : Obligations.RegistersAreWrittenOnlyByTheirCommands := by
  intro i s t h
  obtain ⟨u, t', ht, w, rep⟩ := exec_writes i s
  rw [h] at ht
  cases ht
  rw [show t = _ from rep]
  refine ⟨w.keeps_port, ?_⟩
  cases w with
  | nothing => simp [State.alg]
  | clear cmd => simp [cmd]
  | hash a b cmd => simp [cmd, State.alg]
  | z32 z cmd => simp [cmd, State.alg]
  | z64 z cmd => simp [cmd, State.alg]
  | draw c c' cmd core alg => simp [cmd, core, alg, State.alg]
  | core alg c cmd tag =>
    rcases cmd with rfl | rfl
    · simp [State.alg, tag]
    · simp [State.alg, tag]
  | buffer tag len sb cmd => simp [cmd, State.alg]

end Sys2Proof.Machine
end

/-! ## The advance and the zero register (rules R43, R126, R136, R140)

Every update is a chain of steps `x ^^^ x <<< k`, `x ^^^ x >>> k` and rotations, each of which gives zero for zero only. -/

section
namespace Sys2Proof.Machine

/-! ### The steps of the updates

Simplification turns `x ^^^ y = 0` into `x = y`, so the first two are about a word that is its own shift. -/

@[simp] theorem eq_shiftLeft_self_iff {n : Nat} (x : BitVec n) (k : Nat) (hk : 0 < k) : x = x <<< k ↔ x = 0#n := by
  refine ⟨fun fixed => ?_, fun h => by simp [h]⟩
  refine BitVec.eq_of_getLsbD_eq fun i hi => ?_
  rw [BitVec.getLsbD_zero]
  induction i using Nat.strongRecOn with
  | ind i ih =>
    rw [fixed, BitVec.getLsbD_shiftLeft]
    by_cases hik : i < k
    · simp [hik]
    · rw [ih (i - k) (by omega) (by omega), Bool.and_false]

@[simp] theorem eq_shiftRight_self_iff {n : Nat} (x : BitVec n) (k : Nat) (hk : 0 < k) : x = x >>> k ↔ x = 0#n := by
  refine ⟨fun h => ?_, fun h => by simp [h]⟩
  have fixed : x.toNat = x.toNat / 2 ^ k := by
    rw [← Nat.shiftRight_eq_div_pow, ← BitVec.toNat_ushiftRight, ← h]
  by_contra hx
  have positive : 0 < x.toNat := Nat.pos_of_ne_zero fun h0 => hx (BitVec.eq_of_toNat_eq h0)
  have := Nat.div_lt_self positive (Nat.one_lt_two_pow hk.ne')
  omega

theorem shiftLeft_or_shiftRight_eq_zero {n : Nat} (x : BitVec n) (k : Nat) (hk : k ≤ n) :
    x <<< k ||| x >>> (n - k) = 0#n ↔ x = 0#n := by
  refine ⟨fun h => ?_, fun h => by simp [h]⟩
  obtain ⟨left, right⟩ := BitVec.or_eq_zero_iff.1 h
  refine BitVec.eq_of_getLsbD_eq fun i hi => ?_
  by_cases hik : i < n - k
  · have := congrArg (·.getLsbD (i + k)) left
    simpa [show i + k < n by omega, BitVec.getLsbD_eq_getElem hi] using this
  · have := congrArg (·.getLsbD (i - (n - k))) right
    simpa only [BitVec.getLsbD_ushiftRight, BitVec.getLsbD_zero, show n - k + (i - (n - k)) = i by omega] using this

@[simp] theorem rotl32_eq_zero (x : Word32) (k : Nat) (hk : k ≤ 32) : rotl32 x k = 0#32 ↔ x = 0#32 :=
  shiftLeft_or_shiftRight_eq_zero x k hk

@[simp] theorem rotl64_eq_zero (x : Word64) (k : Nat) (hk : k ≤ 64) : rotl64 x k = 0#64 ↔ x = 0#64 :=
  shiftLeft_or_shiftRight_eq_zero x k hk

/-! ### The cores of a few words -/

theorem registerZero_advXs128 (c : Xs128) :
    registerZero (.w32 (.xs128 (advXs128 c).1)) = registerZero (.w32 (.xs128 c)) := by
  obtain ⟨x, y, z, w⟩ := c
  rw [Bool.eq_iff_iff]
  simp only [registerZero, advXs128, Bool.and_eq_true, beq_iff_eq]
  constructor
  · rintro ⟨⟨⟨rfl, rfl⟩, rfl⟩, hx⟩
    simpa using hx
  · rintro ⟨⟨⟨rfl, rfl⟩, rfl⟩, rfl⟩
    simp

theorem registerZero_advXorwow (c : Xorwow) :
    registerZero (.w32 (.xorwow (advXorwow c).1)) = registerZero (.w32 (.xorwow c)) := by
  obtain ⟨x, y, z, w, v, d⟩ := c
  rw [Bool.eq_iff_iff]
  simp only [registerZero, advXorwow, Bool.and_eq_true, beq_iff_eq]
  constructor
  · rintro ⟨⟨⟨⟨rfl, rfl⟩, rfl⟩, rfl⟩, hx⟩
    simpa using hx
  · rintro ⟨⟨⟨⟨rfl, rfl⟩, rfl⟩, rfl⟩, rfl⟩
    simp

/-- The update of the xoshiro cores gives zero for zero only: read backwards, `s3 = s1`, `s0 = 0`, `s2 = s1`, `s1 = 0`
(R136). -/
theorem xo128Update_eq_zero (c : Xo128) : xo128Update c = ⟨0, 0, 0, 0⟩ ↔ c = ⟨0, 0, 0, 0⟩ := by
  obtain ⟨s0, s1, s2, s3⟩ := c
  simp only [xo128Update, Xo128.mk.injEq]
  constructor
  · rintro ⟨h0, h1, h2, h3⟩
    have h31 : s3 = s1 := by simpa using h3
    subst h31
    have h00 : s0 = 0 := by simpa using h0
    subst h00
    have h21 : s3 = s2 := by simpa using h1
    subst h21
    have h30 : s3 = 0 := by simpa using h2
    exact ⟨rfl, h30, h30, h30⟩
  · rintro ⟨rfl, rfl, rfl, rfl⟩
    simp

theorem registerZero_xo128pp (c : Xo128) : registerZero (.w32 (.xo128pp c)) = true ↔ c = ⟨0, 0, 0, 0⟩ := by
  obtain ⟨s0, s1, s2, s3⟩ := c
  simp [registerZero, and_assoc]

theorem registerZero_xo128p (c : Xo128) : registerZero (.w32 (.xo128p c)) = true ↔ c = ⟨0, 0, 0, 0⟩ :=
  registerZero_xo128pp c

theorem registerZero_advXoro128p (abc : XoroAbc) (c : Xoro128) :
    registerZero (.w64 (.xoro128p (advXoro128p abc c).1)) = registerZero (.w64 (.xoro128p c)) := by
  obtain ⟨s0, s1⟩ := c
  rw [Bool.eq_iff_iff]
  simp only [registerZero, advXoro128p, Bool.and_eq_true, beq_iff_eq]
  have widths : (xoroTriple abc).1 ≤ 64 ∧ (xoroTriple abc).2.2 ≤ 64 := by cases abc <;> decide
  constructor
  · rintro ⟨h0, h1⟩
    have hu : s1 = s0 := by simpa [widths.2] using h1
    subst hu
    have h10 : s1 = 0 := by simpa [widths.1] using h0
    exact ⟨h10, h10⟩
  · rintro ⟨rfl, rfl⟩
    simp [widths.1, widths.2]

/-! ### The tables -/

theorem registerZero_xs7 (c : Xs7) : registerZero (.w32 (.xs7 c)) = true ↔ ∀ j, read8 c.X j = 0 := by
  simp only [registerZero, List.all_eq_true, beq_iff_eq, Vector.mem_toList_iff]
  constructor
  · exact fun h j => h _ (Vector.getElem_mem _)
  · intro h x hx
    obtain ⟨k, hk, rfl⟩ := Vector.getElem_of_mem hx
    simpa [read8, Nat.mod_eq_of_lt hk] using h (BitVec.ofNat 3 k)

theorem registerZero_xs4096 (c : Xs4096) : registerZero (.w32 (.xs4096 c)) = true ↔ ∀ j, read128 c.X j = 0 := by
  simp only [registerZero, List.all_eq_true, beq_iff_eq, Vector.mem_toList_iff]
  constructor
  · exact fun h j => h _ (Vector.getElem_mem _)
  · intro h x hx
    obtain ⟨k, hk, rfl⟩ := Vector.getElem_of_mem hx
    simpa [read128, Nat.mod_eq_of_lt hk] using h (BitVec.ofNat 7 k)

/-- A table round that overwrites word `i` with a value that is zero exactly when word `i` was, while the other words are
zero, leaves the table zero exactly when it was. -/
theorem forall_zero_overwritten {n : Nat} {α : Type} [DecidableEq α] (X : α → BitVec n) (i : α) (v : BitVec n)
    (hv : (∀ j, j ≠ i → X j = 0) → (v = 0 ↔ X i = 0)) :
    (∀ j, (if i = j then v else X j) = 0) ↔ ∀ j, X j = 0 := by
  have others (h : ∀ j, (if i = j then v else X j) = 0) (j : α) (hj : j ≠ i) : X j = 0 := by
    simpa [Ne.symm hj] using h j
  constructor
  · intro h j
    by_cases hj : j = i
    · subst hj
      exact (hv (others h)).1 (by simpa using h j)
    · exact others h j hj
  · intro h j
    split
    · exact (hv fun j _ => h j).2 (h i)
    · exact h j

theorem registerZero_advXs7 (c : Xs7) : registerZero (.w32 (.xs7 (advXs7 c).1)) = registerZero (.w32 (.xs7 c)) := by
  rw [Bool.eq_iff_iff, registerZero_xs7, registerZero_xs7]
  simp only [advXs7, read8_write8]
  refine forall_zero_overwritten _ _ _ fun others => ?_
  have tap (k : BitVec 3) (hk : k ≠ 0) : read8 c.X (c.i + k) = 0 := others _ (by simpa using hk)
  rw [tap 1 (by decide), tap 3 (by decide), tap 4 (by decide), tap 7 (by decide)]
  simp

theorem registerZero_advXs4096 (c : Xs4096) :
    registerZero (.w32 (.xs4096 (advXs4096 c).1)) = registerZero (.w32 (.xs4096 c)) := by
  rw [Bool.eq_iff_iff, registerZero_xs4096, registerZero_xs4096]
  simp only [advXs4096, xs4096Round, read128_write128]
  refine forall_zero_overwritten _ _ _ fun others => ?_
  rw [xs4096RoundWord, others (c.i + 34) (by simp)]
  simp [xs4096Mix]

/-- Settles O29, by the update of each core. -/
theorem onlyAZeroRegisterAdvancesToZero : Obligations.OnlyAZeroRegisterAdvancesToZero := by
  intro cfg c
  rcases c with (c | c | c | c | c | c | z) | (c | z)
  · exact registerZero_advXs128 c
  · exact registerZero_advXs7 c
  · exact registerZero_advXs4096 c
  · exact registerZero_advXorwow c
  · rw [Bool.eq_iff_iff, registerZero_xo128pp]
    exact (registerZero_xo128pp _).trans (xo128Update_eq_zero c)
  · rw [Bool.eq_iff_iff, registerZero_xo128p]
    exact (registerZero_xo128p _).trans (xo128Update_eq_zero c)
  · rfl
  · exact registerZero_advXoro128p cfg.xoroAbc c
  · rfl

end Sys2Proof.Machine
end

/-! ## The sticky error (10_state.md rule R34) -/

section
namespace Sys2Proof.Machine

/-! ### The words that decode to a command (30_encoding.md rules R71, R77) -/

/-- A word is made of its four fields (R71). -/
theorem commandWord_fields (c : Word32) (h : c.extractLsb' 8 12 = 0) :
    commandWord (c.extractLsb' 24 8) (c.extractLsb' 20 4) (c.extractLsb' 0 8) = c := by
  rw [commandWord, show (0#12) = c.extractLsb' 8 12 from h.symm,
    BitVec.extractLsb'_append_extractLsb'_eq_extractLsb' (start₂ := 24) (start₁ := 20) rfl,
    BitVec.extractLsb'_append_extractLsb'_eq_extractLsb' (start₂ := 20) (start₁ := 8) rfl,
    BitVec.extractLsb'_append_extractLsb'_eq_extractLsb' (start₂ := 8) (start₁ := 0) rfl]
  exact BitVec.extractLsb'_eq_self

@[simp] theorem Opcode.instr_plain (cmd i : Instr) (alg : BitVec 4) (imm8 : Byte) :
    (Opcode.plain cmd).instr alg imm8 = .command i ↔ alg = 0 ∧ imm8 = 0 ∧ cmd = i := by
  simp only [Opcode.instr]
  split <;> simp_all

@[simp] theorem Opcode.instr_withAlg (cmd : Alg → Instr) (i : Instr) (alg : BitVec 4) (imm8 : Byte) :
    (Opcode.withAlg cmd).instr alg imm8 = .command i ↔ imm8 = 0 ∧ ∃ a, Alg.ofCode alg = some a ∧ cmd a = i := by
  simp only [Opcode.instr]
  split
  · cases Alg.ofCode alg <;> simp_all
  · simp_all

@[simp] theorem Opcode.instr_withImm (cmd : Byte → Instr) (i : Instr) (alg : BitVec 4) (imm8 : Byte) :
    (Opcode.withImm cmd).instr alg imm8 = .command i ↔ alg = 0 ∧ cmd imm8 = i := by
  simp only [Opcode.instr]
  split <;> simp_all

/-- The opcode of `CLR` is the one that gives it (R76). -/
theorem Opcode.ofByte_clr {op : BitVec 8} {o : Opcode} {alg : BitVec 4} {imm8 : Byte} (ho : Opcode.ofByte op = some o)
    (h : o.instr alg imm8 = .command .clr) : op = 1 ∧ alg = 0 ∧ imm8 = 0 := by
  unfold Opcode.ofByte at ho
  split at ho <;> cases ho <;> simp_all

theorem decode_clr {c : Word32} (h : decode c = .command .clr) : c = 0x01000000 := by
  simp only [decode] at h
  split at h
  · next rsv =>
    split at h
    · next o ho =>
      obtain ⟨op, alg, imm8⟩ := Opcode.ofByte_clr ho h
      rw [← commandWord_fields c rsv, op, alg, imm8]
      rfl
    · cases h
  · cases h

/-! ### What a command does to `ERR` -/

/-- An error status is recorded as the first (R34, R232). -/
theorem Ends.err_of_error {i : Instr} {s t : State} (h : Ends i s t) {e : ErrCode} {r f : Word64}
    (ht : t.rsp = some ⟨.error e, r, f⟩) : t.err = recordFirst s.err e := by
  cases h with
  | error e' => cases ht; rfl
  | ok => cases ht
  | reject => cases ht
  | retry c => cases ht; rfl
  | hang => cases ht

/-- A recorded error stays but for `CLR` (R34). -/
theorem Ends.err_sticky {i : Instr} {s t : State} (h : Ends i s t) {e : ErrCode} (hs : s.err = some e) :
    t.err = some e ∨ i = .clr := by
  cases h with
  | error e' => exact .inl (by simp [hs])
  | ok u r f _ _ err => exact err.imp_left fun h => by simp [h, hs]
  | reject => exact .inl hs
  | retry c => exact .inl (by simp [hs])
  | hang => exact .inl hs

theorem execWord_err_of_error {cmd : Word32} {s t : State} {e : ErrCode} {r f : Word64} (h : execWord cmd s = .next t)
    (ht : t.rsp = some ⟨.error e, r, f⟩) : t.err = recordFirst s.err e := by
  unfold execWord at h
  split at h
  · next i _ =>
    obtain ⟨u, hu, ends⟩ := exec_ends i s
    rw [h] at hu
    cases hu
    exact ends.err_of_error ht
  · cases h
    cases ht
    rfl

/-- Settles O47: an error goes through the record of the first, and only the two resets undo it. -/
theorem firstErrorIsSticky : Obligations.FirstErrorIsSticky := by
  refine ⟨fun cmd s t e r f hs h ht => ?_, fun s t e hs h => ?_⟩
  · rw [execWord_err_of_error h ht, hs, recordFirst_none]
  rcases step_cases s with ⟨-, hstep⟩ | ⟨rest, hin, hstep⟩ | ⟨cmd, arg, rest, -, -, hstep⟩ |
    ⟨cmd, arg, rest, why, -, -, -, hstep⟩ | ⟨cmd, arg, rest, i, hin, -, hdec, hstep⟩ <;> rw [h] at hstep
  case inl => cases hstep; exact .inl hs
  case inr.inl => cases hstep; exact .inr ⟨rfl, .inl ⟨rest, hin⟩⟩
  case inr.inr.inl => cases hstep; exact .inl hs
  case inr.inr.inr.inl => cases hstep; exact .inl (by simp [hs])
  case inr.inr.inr.inr =>
    obtain ⟨u, hu, ends⟩ := exec_ends i ((s.setInbox rest).setArg arg)
    rw [← hstep] at hu
    cases hu
    rcases ends.err_sticky hs with hkept | rfl
    · exact .inl hkept
    · cases hstep
      exact .inr ⟨rfl, .inr ⟨arg, rest, decode_clr hdec ▸ hin⟩⟩

end Sys2Proof.Machine
end

/-! ## Reset values, STATUS and ID (10_state.md rules R36, R37, R40) -/

section
namespace Sys2Proof.Machine

/-- With no flag, no algorithm, no error and an empty buffer the STATUS word is 0 (R36). -/
theorem State.statusWord_eq_zero {s : State} (hv : s.hv = false) (z32v : s.z32v = false) (z64v : s.z64v = false)
    (core : s.core = none) (err : s.err = none) (sbTag : s.sbTag = none) (sbLen : s.sbLen = 0) : s.statusWord = 0 := by
  have seeded : s.seeded = false := by rw [seeded_eq, core]; rfl
  simp only [State.statusWord, State.sbLenBits, State.algBits, State.alg, seeded, hv, z32v, z64v, core, err, sbTag, sbLen]
  rfl

/-- Settles O11. -/
theorem resetAndClrLeaveTheResetValues : Obligations.ResetAndClrLeaveTheResetValues :=
  ⟨⟨rfl, rfl, rfl, rfl, rfl, rfl, rfl, rfl, State.statusWord_eq_zero rfl rfl rfl rfl rfl rfl rfl⟩,
    fun s => ⟨s.clear.ok 0 0, rfl, rfl, rfl, rfl, rfl, rfl, rfl, rfl, rfl,
      State.statusWord_eq_zero rfl rfl rfl rfl rfl rfl rfl, rfl, rfl, rfl, rfl⟩⟩

theorem State.sbLenBits_setWidth (s : State) : s.sbLenBits.setWidth 64 = BitVec.ofNat 64 s.sbLen.val := by
  have := s.sbLen.isLt
  apply BitVec.eq_of_toNat_eq
  simp only [State.sbLenBits, BitVec.toNat_setWidth, BitVec.toNat_ofNat]
  omega

theorem or_reversed (a b c d e f g h : Word64) :
    h ||| g ||| f ||| e ||| d ||| c ||| b ||| a = a ||| b ||| c ||| d ||| e ||| f ||| g ||| h := by
  ac_rfl

/-- The fields of the STATUS word at their positions (R36). -/
theorem State.zext32_statusWord (s : State) :
    zext32 s.statusWord =
      (BitVec.ofBool s.hv).setWidth 64 ||| (BitVec.ofBool s.z32v).setWidth 64 <<< 1 |||
        (BitVec.ofBool s.z64v).setWidth 64 <<< 2 ||| (BitVec.ofBool s.seeded).setWidth 64 <<< 3 |||
        s.algBits.setWidth 64 <<< 4 ||| (errCode s.err).setWidth 64 <<< 8 |||
        (algCode s.sbTag).setWidth 64 <<< 12 ||| s.sbLenBits.setWidth 64 <<< 16 := by
  simp only [zext32, State.statusWord, BitVec.setWidth_append_eq_shiftLeft_setWidth_or, BitVec.shiftLeft_or_distrib]
  simp only [← BitVec.shiftLeft_add, BitVec.setWidth_zero, BitVec.zero_shiftLeft, BitVec.zero_or, Nat.reduceAdd]
  apply or_reversed

/-- Settles O12. -/
theorem statReturnsTheStatusWord : Obligations.StatReturnsTheStatusWord := by
  intro s
  rw [exec, execStat, s.zext32_statusWord, s.sbLenBits_setWidth, seeded_eq]
  rfl

/-- The ID word is made of the two configured fields and the one command set (R37). -/
theorem zext32_idWord {cfg : Config} {m : SmMode} {x : XoroAbc} (hm : cfg.smMode = m) (hx : cfg.xoroAbc = x) :
    zext32 (idWord cfg) = zext32 (0#22 ++ xovBit x ++ smfBit m ++ verBits .v1) := by
  cases hv : cfg.ver
  rw [idWord, hm, hx, hv]

theorem exec_rdid {s : State} {w : Word64} (h : zext32 (idWord s.cfg) = w) :
    exec .rdid s = .next { s with rsp := some ⟨.ok, w, 0⟩ } := by
  rw [← h]
  rfl

/-- Settles O13: the ID word of each of the four configurations. -/
theorem rdidReturnsTheIdWord : Obligations.RdidReturnsTheIdWord := fun _ =>
  ⟨fun hm hx => exec_rdid ((zext32_idWord hm hx).trans (by decide)),
    fun hm hx => exec_rdid ((zext32_idWord hm hx).trans (by decide)),
    fun hm hx => exec_rdid ((zext32_idWord hm hx).trans (by decide)),
    fun hm hx => exec_rdid ((zext32_idWord hm hx).trans (by decide))⟩

/-- Settles O57: after reset there is no response, no error and no hang. -/
theorem resetMeetsTheInvariant : Obligations.ResetMeetsTheInvariant where
  response := nofun
  recorded := nofun
  retry := by rintro (h | ⟨r, h, -⟩) <;> cases h
  hang := nofun

end Sys2Proof.Machine
end

/-! ## The hash of a whole operand (20_memory.md rule R54, 40_fnv_hash.md rules R95, R96) -/

section
namespace Sys2Proof.Machine

/-- While a hash exists, an update of the accumulators writes nothing else. -/
theorem State.setHash_of_hv {s : State} (hv : s.hv = true) (a : Word32) (b : Word64) :
    s.setHash a b = { s with h32 := a, h64 := b } := by
  rw [State.setHash, ← hv]

theorem exec_fnvByte {s : State} (hv : s.hv = true) (b : Byte) :
    exec (.fnvByte b) s = .next ((s.foldBytes [b]).ok 0 0) :=
  if_pos hv

theorem exec_fnvInt {s : State} (hv : s.hv = true) : exec .fnvInt s = .next ((s.foldBytes (bytesOf s.arg)).ok 0 0) :=
  if_pos hv

theorem exec_fnvInt_noHash {s : State} (hv : s.hv = false) : exec .fnvInt s = .next (s.raise .noHash) :=
  if_neg (by simp [hv])

@[simp] theorem State.foldBytes_arg (s : State) (bytes : List Byte) : (s.foldBytes bytes).arg = s.arg := rfl

theorem State.foldBytes_cons (s : State) (b : Byte) (bytes : List Byte) :
    (((s.foldBytes [b]).ok 0 0).foldBytes bytes).ok 0 0 = (s.foldBytes (b :: bytes)).ok 0 0 := rfl

@[simp] theorem State.setArg_self (s : State) : s.setArg s.arg = s := rfl

theorem runCommands_fnvByte_cons {s : State} (hv : s.hv = true) (b : Byte) (rest : List (Instr × Word64)) :
    runCommands ((.fnvByte b, s.arg) :: rest) s = runCommands rest ((s.foldBytes [b]).ok 0 0) := by
  rw [runCommands, s.setArg_self, exec_fnvByte hv]

/-- The `FNV.BYTE` commands of a sequence fold its bytes in order (R90, R95); each response replaces the one before. -/
theorem runCommands_fnvBytes {s : State} (hv : s.hv = true) (b : Byte) (bytes : List Byte) :
    runCommands ((b :: bytes).map fun x => (.fnvByte x, s.arg)) s = .next ((s.foldBytes (b :: bytes)).ok 0 0) := by
  induction bytes generalizing s b with
  | nil =>
    rw [List.map_cons, runCommands_fnvByte_cons hv]
    rfl
  | cons b' bytes ih =>
    rw [List.map_cons, runCommands_fnvByte_cons hv]
    have following := ih (s := (s.foldBytes [b]).ok 0 0) rfl b'
    rwa [State.ok_arg, State.foldBytes_arg, State.foldBytes_cons] at following

/-- The bytes of an operand by their number, byte `k` at bit `8 k` (R54). -/
theorem bytesOf_eq_map_range (v : Word64) : bytesOf v = (List.range 8).map fun k => v.extractLsb' (8 * k) 8 := rfl

/-- Settles O16: `FNV.INT` folds the bytes of the operand, and so do the eight commands. -/
theorem fnvIntIsEightFnvBytes : Obligations.FnvIntIsEightFnvBytes := by
  refine fun s => ⟨fun hv => ⟨_, exec_fnvInt hv, ?_, ?_⟩, fun hv => ?_⟩
  · have commands : ((List.range 8).map fun k => (Instr.fnvByte (s.arg.extractLsb' (8 * k) 8), s.arg)) =
        (bytesOf s.arg).map fun b => (.fnvByte b, s.arg) := by
      rw [bytesOf_eq_map_range, List.map_map]
      rfl
    rw [commands]
    exact runCommands_fnvBytes hv _ _
  · rw [State.foldBytes, State.setHash_of_hv hv]
    rfl
  · rw [exec_fnvInt_noHash hv, State.raise_eq]

end Sys2Proof.Machine
end

/-! ## The circular tables (20_memory.md rule R52, 42_xorshift_cores.md rules R122 to R124) -/

section
namespace Sys2Proof.Machine

theorem exec_adv_w32 {s : State} {c : Core32} (hc : s.core = some (.w32 c)) :
    exec .adv s = .next ((s.setCore (.w32 (advance32 s.cfg c).1)).ok (zext32 (advance32 s.cfg c).2) 0) := by
  rw [exec, execAdv, hc]

/-- The next index is counted modulo the length of the table (R52). -/
theorem add_one_eq_ofNat_mod {n : Nat} (i : BitVec n) : i + 1 = BitVec.ofNat n ((i.toNat + 1) % 2 ^ n) := by
  apply BitVec.eq_of_toNat_eq
  simp

theorem getElem_write8 (X : Vector Word32 8) (i : BitVec 3) (v : Word32) (k : Nat) (hk : k < 8) :
    (write8 X i v)[k] = if k = i.toNat then v else X[k] := by
  simp only [write8, Vector.getElem_set, eq_comm]

theorem getElem_write128 (X : Vector Word32 128) (i : BitVec 7) (v : Word32) (k : Nat) (hk : k < 128) :
    (write128 X i v)[k] = if k = i.toNat then v else X[k] := by
  simp only [write128, Vector.getElem_set, eq_comm]

/-- The round writes its output at the old index (R122). -/
theorem advXs7_fst (X : Vector Word32 8) (i : BitVec 3) :
    (advXs7 ⟨X, i⟩).1 = ⟨write8 X i (advXs7 ⟨X, i⟩).2, BitVec.ofNat 3 ((i.toNat + 1) % 8)⟩ :=
  congrArg (Xs7.mk _) (add_one_eq_ofNat_mod i)

/-- The five terms of the XS7 word, without their parentheses. -/
theorem xor_five_pairs (a a' b b' c c' d d' e e' : Word32) :
    a ^^^ a' ^^^ (b ^^^ b') ^^^ (c ^^^ c') ^^^ (d ^^^ d') ^^^ (e ^^^ e') =
      a ^^^ a' ^^^ b ^^^ b' ^^^ c ^^^ c' ^^^ d ^^^ d' ^^^ e ^^^ e' := by
  simp only [BitVec.xor_assoc]

/-- Settles O24: the five taps modulo 8 make the word that is written and returned. -/
theorem advOnTheXs7Table : Obligations.AdvOnTheXs7Table := by
  intro s X i hc tap p0 p7 v
  have tap0 : read8 X (i + 0#3) = tap 0 := read8_add X i 0
  rw [BitVec.add_zero] at tap0
  have output : (advXs7 ⟨X, i⟩).2 = v := by
    simp only [advXs7, read8_add, tap0, xor_five_pairs]
    rfl
  refine ⟨write8 X i v, ?_, getElem_write8 X i v⟩
  rw [exec_adv_w32 hc, advance32, advXs7_fst, output]
  rfl

/-- The word of the XS4096 round is made of the taps at 34 and 1, modulo 128 (R123). -/
theorem xs4096RoundWord_eq (X : Vector Word32 128) (i : BitVec 7) (w : Word32) :
    xs4096RoundWord ⟨X, i, w⟩ = xs4096Mix (X[(i.toNat + 34) % 128]'(Nat.mod_lt _ (by decide)))
      (X[(i.toNat + 1) % 128]'(Nat.mod_lt _ (by decide))) := by
  rw [xs4096RoundWord, read128_add, read128_add]
  rfl

/-- The round writes at the new index; the Weyl counter advances beside it (R123, R124). -/
theorem advXs4096_fst (X : Vector Word32 128) (i : BitVec 7) (w : Word32) :
    (advXs4096 ⟨X, i, w⟩).1 =
      ⟨write128 X (i + 1) (xs4096RoundWord ⟨X, i, w⟩), BitVec.ofNat 7 ((i.toNat + 1) % 128), w + 0x61c88647⟩ :=
  congrArg (Xs4096.mk _ · _) (add_one_eq_ofNat_mod i)

/-- Settles O25: the two taps modulo 128 make the word that is written, to which the new Weyl counter is added. -/
theorem advOnTheXs4096Table : Obligations.AdvOnTheXs4096Table := by
  intro s X i w hc tap v t r w'
  have word : xs4096RoundWord ⟨X, i, w⟩ = r := xs4096RoundWord_eq X i w
  refine ⟨write128 X (i + 1) r, ?_, fun k hk => ?_⟩
  · rw [exec_adv_w32 hc, advance32, advXs4096_fst, advXs4096, word]
    rfl
  · rw [getElem_write128, BitVec.toNat_add]
    rfl

end Sys2Proof.Machine
end

/-! ## Taking a snapshot (20_memory.md rule R61, 46_snapshot.md rules R197, R199) -/

section
namespace Sys2Proof.Machine

theorem exec_snap {s : State} {c : Core} (hc : s.core = some c) :
    exec .snap s = .next ((s.setBuffer (some c.alg) (nwords c.alg) (writeWords s.sb 0 (snapWords c))).ok 0 0) := by
  rw [exec, execSnap, hc]

theorem exec_snap_unseeded {s : State} (hc : s.core = none) : exec .snap s = .next (s.raise .unseeded) := by
  rw [exec, execSnap, hc]

theorem getElem_writeWords_zero_of_lt (sb : Vector Word32 130) (ws : List Word32) (k : Nat) (h : k < ws.length)
    (hk : k < 130) : (writeWords sb 0 ws)[k] = ws[k] := by
  rw [getElem_writeWords, dif_pos (by omega)]
  rfl

theorem getElem_writeWords_zero_of_le (sb : Vector Word32 130) (ws : List Word32) (k : Nat) (h : ws.length ≤ k)
    (hk : k < 130) : (writeWords sb 0 ws)[k] = sb[k] := by
  rw [getElem_writeWords, dif_neg (by omega)]

/-- Settles O49: the words of the core are written from index 0 on, and there are `NWORDS` of them. -/
theorem snapCopiesTheCoreIntoTheBuffer : Obligations.SnapCopiesTheCoreIntoTheBuffer := by
  refine fun s => ⟨fun c hc => ⟨writeWords s.sb 0 (snapWords c), exec_snap hc, snapWords_length c, ?_, ?_⟩, fun hc => ?_⟩
  · exact fun k h hk => getElem_writeWords_zero_of_lt _ _ k h hk
  · exact fun k hk h => getElem_writeWords_zero_of_le _ _ k h hk
  · rw [exec_snap_unseeded hc, State.raise_eq]

end Sys2Proof.Machine
end

/-! ## The decoder, the encoder and the opcode map (30_encoding.md rules R71, R72, R76 to R80, R84)

A command word is its four fields, and a row of the opcode map fixes what the decoder makes of them; so the decoder, the
encoder and the table of masks and matches are compared row by row. -/

section
namespace Sys2Proof

open Machine

/-! ### The fields of a word built from fields (R71) -/

section
variable (op : BitVec 8) (alg : BitVec 4) (imm8 : Byte)

@[simp] theorem commandWord_op : (commandWord op alg imm8).extractLsb' 24 8 = op := calc
  _ = (op ++ alg ++ 0#12).extractLsb' 16 8 := BitVec.extractLsb'_append_eq_of_le (by decide)
  _ = (op ++ alg).extractLsb' 4 8 := BitVec.extractLsb'_append_eq_of_le (by decide)
  _ = op := BitVec.extractLsb'_append_eq_left

@[simp] theorem commandWord_alg : (commandWord op alg imm8).extractLsb' 20 4 = alg := calc
  _ = (op ++ alg ++ 0#12).extractLsb' 12 4 := BitVec.extractLsb'_append_eq_of_le (by decide)
  _ = (op ++ alg).extractLsb' 0 4 := BitVec.extractLsb'_append_eq_of_le (by decide)
  _ = alg := BitVec.extractLsb'_append_eq_right

@[simp] theorem commandWord_rsv : (commandWord op alg imm8).extractLsb' 8 12 = 0 := calc
  _ = (op ++ alg ++ 0#12).extractLsb' 0 12 := BitVec.extractLsb'_append_eq_of_le (by decide)
  _ = 0 := BitVec.extractLsb'_append_eq_right

@[simp] theorem commandWord_imm8 : (commandWord op alg imm8).extractLsb' 0 8 = imm8 :=
  BitVec.extractLsb'_append_eq_right

end

/-- Decoding a word with no reserved bits: the opcode, then the tests of its format (R77). -/
theorem decode_commandWord {op : BitVec 8} {o : Opcode} (ho : Opcode.ofByte op = some o) (alg : BitVec 4) (imm8 : Byte) :
    decode (commandWord op alg imm8) = o.instr alg imm8 := by
  simp only [decode, commandWord_op, commandWord_alg, commandWord_rsv, commandWord_imm8, ho, if_true]

/-- A decoded word is built from an opcode of the map and fields the opcode's format allows (R77, R79). -/
theorem exists_fields_of_decode {c : Word32} {i : Instr} (h : decode c = .command i) :
    ∃ op o alg imm8, Opcode.ofByte op = some o ∧ o.instr alg imm8 = .command i ∧ c = commandWord op alg imm8 := by
  simp only [decode] at h
  split at h
  · next rsv =>
    split at h
    · next o ho => exact ⟨_, o, _, _, ho, h, (commandWord_fields c rsv).symm⟩
    · cases h
  · cases h

/-! ### Encoding and decoding are inverse (R84) -/

/-- The commands of an opcode are encoded with that opcode, unused fields zero (R84). -/
def Opcode.EncodesAs (op : BitVec 8) : Opcode → Prop
  | .plain command => encode command = commandWord op 0 0
  | .withAlg command => ∀ a, encode (command a) = commandWord op a.code 0
  | .withImm command => ∀ b, encode (command b) = commandWord op 0 b

/-- The encoder agrees with every row of the opcode map (R76, R84). -/
theorem Opcode.encodesAs_of_ofByte {op : BitVec 8} {o : Opcode} (ho : Opcode.ofByte op = some o) : o.EncodesAs op := by
  unfold Opcode.ofByte at ho
  split at ho <;> cases ho <;> simp [Opcode.EncodesAs, encode]

theorem Opcode.EncodesAs.encode_eq {op : BitVec 8} {o : Opcode} {alg : BitVec 4} {imm8 : Byte} {i : Instr}
    (ho : o.EncodesAs op) (h : o.instr alg imm8 = .command i) : encode i = commandWord op alg imm8 := by
  cases o with
  | plain command =>
    obtain ⟨rfl, rfl, rfl⟩ := (Opcode.instr_plain _ _ _ _).1 h
    exact ho
  | withAlg command =>
    obtain ⟨rfl, a, ha, rfl⟩ := (Opcode.instr_withAlg _ _ _ _).1 h
    rw [← code_of_ofCode alg a ha]
    exact ho a
  | withImm command =>
    obtain ⟨rfl, rfl⟩ := (Opcode.instr_withImm _ _ _ _).1 h
    exact ho imm8

theorem Opcode.decode_plain {op : BitVec 8} {i : Instr} (ho : Opcode.ofByte op = some (.plain i)) :
    decode (commandWord op 0 0) = .command i := by
  simp [decode_commandWord ho]

theorem Opcode.decode_withAlg {op : BitVec 8} {i : Alg → Instr} (ho : Opcode.ofByte op = some (.withAlg i)) (a : Alg) :
    decode (commandWord op a.code 0) = .command (i a) := by
  simp [decode_commandWord ho]

theorem Opcode.decode_withImm {op : BitVec 8} {i : Byte → Instr} (ho : Opcode.ofByte op = some (.withImm i)) (b : Byte) :
    decode (commandWord op 0 b) = .command (i b) := by
  simp [decode_commandWord ho]

/-- Every command is the one its word decodes to: its row of the map, in each format (R76, R84). -/
theorem decode_encode (i : Instr) : decode (encode i) = .command i := by
  cases i with
  | fnvByte b => exact Opcode.decode_withImm rfl b
  | sbRd b => exact Opcode.decode_withImm rfl b
  | seed a => exact Opcode.decode_withAlg rfl a
  | sbClr a => exact Opcode.decode_withAlg rfl a
  | restore a => exact Opcode.decode_withAlg rfl a
  | _ => exact Opcode.decode_plain rfl

/-- Settles O2. -/
theorem decodeIsTheInverseOfEncode : Obligations.DecodeIsTheInverseOfEncode := by
  refine fun c i => ⟨fun h => ?_, ?_⟩
  · obtain ⟨op, o, alg, imm8, ho, hi, rfl⟩ := exists_fields_of_decode h
    exact ((Opcode.encodesAs_of_ofByte ho).encode_eq hi).symm
  · rintro rfl
    exact decode_encode i

/-- Settles O1: each word is the encoding of its command. -/
theorem commandWordsOfTheSpecDecode : Obligations.CommandWordsOfTheSpecDecode := by
  simp only [Obligations.CommandWordsOfTheSpecDecode, decodeIsTheInverseOfEncode _ _]
  decide

/-! ### The table of masks and matches (R72, R78, R80) -/

/-- The format of an opcode. -/
def Opcode.format : Opcode → Format
  | .plain _ => .z
  | .withAlg _ => .a
  | .withImm _ => .i

/-- The rows of the table are in the decoder's opcode map, with their formats (R76). -/
theorem ofByte_format_of_mem : ∀ r ∈ opRows, (Opcode.ofByte r.op).map Opcode.format = some r.format := by decide

/-- The match word of a row is the command word with its opcode and no operand (R72). -/
theorem OpRow.matchWord_eq (r : OpRow) : r.matchWord = commandWord r.op 0 0 := by
  rw [OpRow.matchWord, ← BitVec.setWidth_eq (commandWord r.op 0 0), commandWord]
  simp only [BitVec.setWidth_append_eq_shiftLeft_setWidth_or, BitVec.shiftLeft_or_distrib, ← BitVec.shiftLeft_add]
  simp

theorem Format.mask_op (f : Format) : f.mask.extractLsb' 24 8 = BitVec.allOnes 8 := by cases f <;> rfl

theorem Format.mask_rsv (f : Format) : f.mask.extractLsb' 8 12 = BitVec.allOnes 12 := by cases f <;> rfl

theorem Format.mask_alg {f : Format} (h : f ≠ .a) : f.mask.extractLsb' 20 4 = BitVec.allOnes 4 := by
  cases f <;> trivial

theorem Format.mask_imm8 {f : Format} (h : f ≠ .i) : f.mask.extractLsb' 0 8 = BitVec.allOnes 8 := by
  cases f <;> trivial

/-- What a word that selects a row has in its fields: the row's opcode, and zero where the format has no field (R72). -/
theorem OpRow.fields_of_selects {r : OpRow} {c : Word32} (h : r.selects c = true) :
    c.extractLsb' 24 8 = r.op ∧ c.extractLsb' 8 12 = 0 ∧ (r.format ≠ .a → c.extractLsb' 20 4 = 0) ∧
      (r.format ≠ .i → c.extractLsb' 0 8 = 0) := by
  have field (start len : Nat) (ones : r.format.mask.extractLsb' start len = BitVec.allOnes len) :
      c.extractLsb' start len = (commandWord r.op 0 0).extractLsb' start len := by
    rw [← r.matchWord_eq, ← eq_of_beq h, BitVec.extractLsb'_and, ones, BitVec.and_allOnes]
  refine ⟨?_, ?_, fun ha => ?_, fun hi => ?_⟩
  · rw [field _ _ r.format.mask_op, commandWord_op]
  · rw [field _ _ r.format.mask_rsv, commandWord_rsv]
  · rw [field _ _ (Format.mask_alg ha), commandWord_alg]
  · rw [field _ _ (Format.mask_imm8 hi), commandWord_imm8]

/-- Settles O4: the opcode field of a word that selects a row is the row's, and the opcode determines the format. -/
theorem opcodeRowsNeverOverlap : Obligations.OpcodeRowsNeverOverlap := by
  intro c r q hr hq selr selq
  have op : r.op = q.op := (OpRow.fields_of_selects selr).1.symm.trans (OpRow.fields_of_selects selq).1
  have format : some r.format = some q.format := by
    rw [← ofByte_format_of_mem r hr, ← ofByte_format_of_mem q hq, op]
  cases r
  cases q
  simp_all

/-- The codes 1 to 9 are those of the algorithms (R3, R80). -/
theorem exists_ofCode : ∀ code : BitVec 4, 1 ≤ code.toNat → code.toNat ≤ 9 → ∃ a, Alg.ofCode code = some a := by
  simp only [← Option.isSome_iff_exists]
  decide

theorem OpRow.range_of_algInRange {r : OpRow} {c : Word32} (h : r.algInRange c = true) (format : r.format = .a) :
    1 ≤ (c.extractLsb' 20 4).toNat ∧ (c.extractLsb' 20 4).toNat ≤ 9 := by
  simpa [OpRow.algInRange, format] using h

/-- An opcode whose format's tests the fields pass gives a command (R77, R79, R80). -/
theorem Opcode.exists_instr (o : Opcode) {alg : BitVec 4} {imm8 : Byte} (unusedAlg : o.format ≠ .a → alg = 0)
    (unusedImm : o.format ≠ .i → imm8 = 0) (range : o.format = .a → 1 ≤ alg.toNat ∧ alg.toNat ≤ 9) :
    ∃ i, o.instr alg imm8 = .command i := by
  cases o with
  | plain command => exact ⟨command, (Opcode.instr_plain _ _ _ _).2 ⟨unusedAlg nofun, unusedImm nofun, rfl⟩⟩
  | withAlg command =>
    obtain ⟨a, ha⟩ := exists_ofCode alg (range rfl).1 (range rfl).2
    exact ⟨command a, (Opcode.instr_withAlg _ _ _ _).2 ⟨unusedImm nofun, a, ha, rfl⟩⟩
  | withImm command => exact ⟨command imm8, (Opcode.instr_withImm _ _ _ _).2 ⟨unusedAlg nofun, rfl⟩⟩

/-- A legal word is a command: the row it selects gives the opcode, and the fields pass the tests of the format (R72). -/
theorem exists_decode_of_legalWord {c : Word32} (h : legalWord c = true) : ∃ i, decode c = .command i := by
  obtain ⟨r, hr, hc⟩ := List.any_eq_true.1 h
  obtain ⟨selects, inRange⟩ := Bool.and_eq_true_iff.1 hc
  obtain ⟨op, rsv, alg, imm8⟩ := OpRow.fields_of_selects selects
  obtain ⟨o, ho, format⟩ := Option.map_eq_some_iff.1 (ofByte_format_of_mem r hr)
  rw [← commandWord_fields c rsv, op, decode_commandWord ho]
  rw [← format] at alg imm8
  exact o.exists_instr alg imm8 fun hf => OpRow.range_of_algInRange inRange (format ▸ hf)

theorem legalWord_encode (i : Instr) : legalWord (encode i) = true := by
  cases i with
  | fnvByte b => exact Laws.EncodedWordIsLegal.fnvByte b
  | sbRd b => exact Laws.EncodedWordIsLegal.sbRd b
  | seed a => exact Laws.EncodedWordIsLegal.seed a
  | sbClr a => exact Laws.EncodedWordIsLegal.sbClr a
  | restore a => exact Laws.EncodedWordIsLegal.restore a
  | _ => rfl

/-- Settles O3. -/
theorem legalWordsAreTheDecodedOnes : Obligations.LegalWordsAreTheDecodedOnes := by
  refine fun c => ⟨exists_decode_of_legalWord, ?_⟩
  rintro ⟨i, h⟩
  rw [(decodeIsTheInverseOfEncode c i).1 h]
  exact legalWord_encode i

theorem exists_illegal_of_not_legalWord {c : Word32} (h : legalWord c = false) : ∃ why, decode c = .illegal why := by
  cases hd : decode c with
  | command i =>
    rw [(legalWordsAreTheDecodedOnes c).2 ⟨i, hd⟩] at h
    cases h
  | illegal why => exact ⟨why, rfl⟩

end Sys2Proof
end

/-! ## A step on a command word (30_encoding.md rules R70, R77) -/

section
namespace Sys2Proof.Machine

/-- Out of the hang the next command word is executed, its operand standing at the port (R70). -/
theorem step_command {s : State} {c : Word32} {a : Word64} {rest : List HostInput} (hin : s.inbox = .command c a :: rest)
    (hh : s.hung = false) : step s = execWord c ((s.setInbox rest).setArg a) := by
  rw [step, takeInput_command s c a rest hin, takeCommand_running c a (s.setInbox rest) hh]

theorem execWord_of_command {c : Word32} {i : Instr} (h : decode c = .command i) (s : State) : execWord c s = exec i s := by
  rw [execWord, h]

theorem execWord_of_illegal {c : Word32} {why : DecodeError} (h : decode c = .illegal why) (s : State) :
    execWord c s = .next (s.raise .illegal) := by
  rw [execWord, h]

/-- Settles O6. -/
theorem stepRunsTheDecodedCommand : Obligations.StepRunsTheDecodedCommand := by
  intro s c a rest i hin hh hd
  rw [step_command hin hh, execWord_of_command hd]
  rfl

/-- Settles O5: an illegal word is one the decoder rejects, and the error entry is the only effect. -/
theorem illegalWordEndsWithIllegal : Obligations.IllegalWordEndsWithIllegal := by
  intro s c a rest hin hh hc
  obtain ⟨why, hd⟩ := exists_illegal_of_not_legalWord hc
  rw [step_command hin hh, execWord_of_illegal hd, State.raise_eq]
  rfl

end Sys2Proof.Machine
end

/-! ## Seeding from bytes (30_encoding.md rule R83, 70_reset_and_hazards.md rule R254)

The commands of `SEED.BYTES` all have the operand 0 and succeed, so the block goes from one to the next in states of one
form: a state of its registers, the inputs still to come, and the response of a success. -/

section
namespace Sys2Proof.Machine

/-- The block after a successful command with the operand 0, the inputs still to come in its port. -/
def State.succeeded (s : State) (inbox : List HostInput) : State := ((s.setInbox inbox).setArg 0).ok 0 0

theorem step_issue {s : State} {i : Instr} {arg : Word64} {rest : List HostInput} (hin : s.inbox = issue i arg :: rest)
    (hh : s.hung = false) : step s = exec i ((s.setInbox rest).setArg arg) := by
  rw [step_command hin hh, execWord_of_command (decode_encode i)]

theorem run_succ {M : Host.Core} {s t : M.State} (h : M.step s = .next t) (k : Nat) : M.run (k + 1) s = M.run k t := by
  rw [Host.Core.run, h]

theorem run_succ_of_step {s t : State} (h : step s = .next t) (k : Nat) :
    Host.Core.run Sys2Proof.core (k + 1) s = Host.Core.run Sys2Proof.core k t :=
  run_succ (M := Sys2Proof.core) h k

theorem exec_seed {s : State} (hv : s.hv = true) (alg : Alg) :
    exec (.seed alg) s = .next ((s.setCore (construct s.cfg alg s.h32 s.h64)).ok 0 0) :=
  if_pos hv

theorem step_issue_fnvInit {s : State} {rest : List HostInput} (hin : s.inbox = issue .fnvInit 0 :: rest)
    (hh : s.hung = false) : step s = .next ((s.setHash fnv32Basis fnv64Basis).succeeded rest) :=
  step_issue hin hh

theorem State.succeeded_setHash (s : State) (rest : List HostInput) (h32 : Word32) (h64 : Word64) :
    ((s.succeeded rest).setHash h32 h64).ok 0 0 = (s.setHash h32 h64).succeeded rest := rfl

theorem State.succeeded_setCore (s : State) (rest : List HostInput) (c : Core) :
    ((s.succeeded rest).setCore c).ok 0 0 = (s.setCore c).succeeded rest := rfl

theorem step_succeeded {s : State} (hh : s.hung = false) (i : Instr) (rest : List HostInput) :
    step (s.succeeded (issue i 0 :: rest)) = exec i (s.succeeded rest) :=
  step_issue (s := s.succeeded _) rfl hh

theorem step_issue_fnvByte {s : State} (hv : s.hv = true) (hh : s.hung = false) (b : Byte) (rest : List HostInput) :
    step (s.succeeded (issue (.fnvByte b) 0 :: rest)) = .next ((s.foldBytes [b]).succeeded rest) := by
  rw [step_succeeded hh, exec_fnvByte (s := s.succeeded rest) hv, State.foldBytes, State.succeeded_setHash]
  rfl

theorem step_issue_seed {s : State} (hv : s.hv = true) (hh : s.hung = false) (alg : Alg) (rest : List HostInput) :
    step (s.succeeded (issue (.seed alg) 0 :: rest)) =
      .next ((s.setCore (construct s.cfg alg s.h32 s.h64)).succeeded rest) := by
  rw [step_succeeded hh, exec_seed (s := s.succeeded rest) hv, State.succeeded_setCore]
  rfl

/-- The `FNV.BYTE` inputs of a byte sequence, run one step each, fold the bytes in order (R83, R90). -/
theorem run_issueBytes (bytes : List Byte) (rest : List HostInput) (k : Nat) {s : State} (hv : s.hv = true)
    (hh : s.hung = false) :
    Host.Core.run Sys2Proof.core (bytes.length + k) (s.succeeded (issueBytes bytes ++ rest)) =
      Host.Core.run Sys2Proof.core k ((s.foldBytes bytes).succeeded rest) := by
  induction bytes generalizing s with
  | nil =>
    rw [State.foldBytes, State.setHash_of_hv hv, List.length_nil, Nat.zero_add]
    rfl
  | cons b bytes ih =>
    calc
      _ = Host.Core.run Sys2Proof.core (bytes.length + k + 1)
            (s.succeeded (issue (.fnvByte b) 0 :: (issueBytes bytes ++ rest))) := by
        rw [List.length_cons, Nat.add_right_comm]
        rfl
      _ = Host.Core.run Sys2Proof.core (bytes.length + k) ((s.foldBytes [b]).succeeded (issueBytes bytes ++ rest)) :=
        run_succ_of_step (step_issue_fnvByte hv hh b _) _
      _ = _ := ih (s := s.foldBytes [b]) rfl hh

/-- Settles O60: the offset basis, the bytes folded into it, and the core constructed from the two hashes. -/
theorem seedBytesRunsToTheConstructedCore : Obligations.SeedBytesRunsToTheConstructedCore := by
  intro s alg bytes hh hin
  have run := calc Host.Core.run Sys2Proof.core (bytes.length + 2) s
    _ = Host.Core.run Sys2Proof.core (bytes.length + 1)
          ((s.setHash fnv32Basis fnv64Basis).succeeded (issueBytes bytes ++ [issue (.seed alg) 0])) :=
      run_succ_of_step (step_issue_fnvInit hin hh) _
    _ = Host.Core.run Sys2Proof.core 1
          (((s.setHash fnv32Basis fnv64Basis).foldBytes bytes).succeeded [issue (.seed alg) 0]) :=
      run_issueBytes bytes _ 1 rfl hh
    _ = _ :=
      run_succ_of_step
        (step_issue_seed (s := (s.setHash fnv32Basis fnv64Basis).foldBytes bytes) rfl hh alg []) 0
  exact ⟨_, run, rfl, rfl, rfl, rfl, rfl, rfl, rfl⟩

end Sys2Proof.Machine
end

/-! ## The invariant of responses, errors and the hang (rules R75, R182, R226, R232, R237)

A command is met out of the hang. Whatever registers it writes, the state it then answers from is out of the hang and holds
`E_RETRY` under a finite limit only; the invariant depends on nothing else but the answer. -/

section
namespace Sys2Proof.Machine

/-! ### Answers that meet the invariant -/

/-- A state a command may answer from: out of the hang, and `ERR` holds `E_RETRY` only under a limit (R226). -/
def State.Running (u : State) : Prop := u.hung = false ∧ (u.err = some .retry → u.cfg.retryLimit ≠ .inf)

theorem State.Inv.running {s : State} (h : s.Inv) (hh : s.hung = false) : s.Running := ⟨hh, fun he => h.retry (.inl he)⟩

section
variable {s u : State}

theorem State.Running.setHash (h : s.Running) (a : Word32) (b : Word64) : (s.setHash a b).Running := h
theorem State.Running.setZ32 (h : s.Running) (z : Word32) : (s.setZ32 z).Running := h
theorem State.Running.setZ64 (h : s.Running) (z : Word64) : (s.setZ64 z).Running := h
theorem State.Running.setCore (h : s.Running) (c : Core) : (s.setCore c).Running := h
theorem State.Running.setBuffer (h : s.Running) (tag : Option Alg) (len : Fin 131) (sb : Vector Word32 130) :
    (s.setBuffer tag len sb).Running := h
theorem State.Running.setInbox (h : s.Running) (inbox : List HostInput) : (s.setInbox inbox).Running := h
theorem State.Running.setArg (h : s.Running) (arg : Word64) : (s.setArg arg).Running := h

/-- A clear ends the hang and empties `ERR` (R40). -/
theorem State.Running.clear (s : State) : s.clear.Running := ⟨rfl, nofun⟩

theorem zero_below_one : (0 : Word64).toNat < 0x3ff0000000000000 := by decide

/-- The last response and `ERR` of a state out of the hang are all the invariant is about. -/
theorem State.Running.inv {t : State} {r : Response} (h : t.Running) (rsp : t.rsp = some r) (wf : r.wf)
    (recorded : ∀ e, r.st = .error e → t.err ≠ none)
    (retry : r.st = .error .retry → t.cfg.retryLimit ≠ .inf) : t.Inv where
  response := by
    rintro _ hr
    cases rsp.symm.trans hr
    exact wf
  recorded := by
    rintro _ e hr
    cases rsp.symm.trans hr
    exact recorded e
  retry := by
    rintro (he | ⟨_, hr, hst⟩)
    · exact h.2 he
    · cases rsp.symm.trans hr
      exact retry hst
  hang := fun hh => absurd hh (by simp [h.1])

theorem State.Running.ok (h : u.Running) (r : Word64) {f : Word64} (below : f.toNat < 0x3ff0000000000000) :
    (u.ok r f).Inv :=
  State.Running.inv (t := u.ok r f) h rfl ⟨nofun, below⟩ nofun nofun

theorem State.Running.reject (h : u.Running) : (u.respond .reject 0 0).Inv :=
  State.Running.inv (t := u.respond .reject 0 0) h rfl ⟨fun _ => ⟨rfl, rfl⟩, zero_below_one⟩ nofun nofun

theorem State.Running.raise (h : u.Running) (e : ErrCode) (limited : e = .retry → u.cfg.retryLimit ≠ .inf) :
    (u.raise e).Inv := by
  have running : (u.raise e).Running := by
    refine ⟨h.1, fun he => ?_⟩
    rcases recordFirst_eq u.err e with kept | new
    · exact h.2 (kept.symm.trans he)
    · exact limited (Option.some.inj (new.symm.trans he))
  exact running.inv rfl ⟨fun _ => ⟨rfl, rfl⟩, zero_below_one⟩ (fun _ _ => recordFirst_ne_none _ _)
    fun he => limited (Status.error.inj he)

theorem State.Running.hang (h : u.Running) (limit : u.cfg.retryLimit = .inf) {c : Core32} (core : u.core = some (.w32 c)) :
    u.hang.Inv where
  response := nofun
  recorded := nofun
  retry := by
    rintro (he | ⟨_, hr, -⟩)
    · exact h.2 he
    · cases hr
  hang := fun _ => ⟨rfl, limit, c, core⟩

end

/-! ### Every command -/

/-- A command that ends in a next state that meets the invariant. -/
def LeadsToInv (result : Result) : Prop := ∃ t, result = .next t ∧ t.Inv

theorem LeadsToInv.next {t : State} (h : t.Inv) : LeadsToInv (.next t) := ⟨t, rfl, h⟩

section
variable {s u : State}

/-- A success with `FRES = 0`. -/
theorem LeadsToInv.ok (h : u.Running) (r : Word64) : LeadsToInv (.next (u.ok r 0)) := .next (h.ok r zero_below_one)

/-- A success with the image of a numerator in `FRES` (R175, R182). -/
theorem LeadsToInv.image (h : u.Running) (r : Word64) (n : Frac53) : LeadsToInv (.next (u.ok r (f64OfFrac53 n))) :=
  .next (h.ok r (f64OfFrac53_lt_one n))

theorem LeadsToInv.raise (h : u.Running) {e : ErrCode} (he : e ≠ .retry) : LeadsToInv (.next (u.raise e)) :=
  .next (h.raise e fun h => absurd h he)

/-- A command that goes on exactly while a flag is set, and else ends with one error. -/
theorem LeadsToInv.guarded (h : s.Running) (hu : u.Running) (flag : Bool) (r : Word64) {e : ErrCode} (he : e ≠ .retry) :
    LeadsToInv (if flag then .next (u.ok r 0) else .next (s.raise e)) := by
  cases flag with
  | true => exact .ok hu r
  | false => exact .raise h he

variable (h : s.Running)
include h

theorem execAdv_inv : LeadsToInv (execAdv s) := by
  unfold execAdv
  split
  · exact .raise h nofun
  · exact .ok (h.setCore _) _
  · exact .ok (h.setCore _) _

theorem execDraw_inv : LeadsToInv (execDraw s) := by
  unfold execDraw
  split
  · exact .raise h nofun
  · exact .image (h.setCore _) _ _
  · exact .image (h.setCore _) _ _

theorem execInt32_inv : LeadsToInv (execInt32 s) := by
  unfold execInt32
  split
  · exact .raise h nofun
  · exact .ok (h.setCore _) _
  · exact .ok (h.setCore _) _

/-- `DOUBLE` gives up only under a limit and hangs only without one (R180, R237). -/
theorem execDouble_inv : LeadsToInv (execDouble s) := by
  unfold execDouble
  split
  · exact .raise h nofun
  · exact .image (h.setCore _) _ _
  · next core =>
    split
    · next limit =>
      split
      · exact .image (h.setCore _) _ _
      · exact .next ((h.setCore _).raise .retry fun _ => by simp [limit])
    · next limit =>
      split
      · exact .image (h.setCore _) _ _
      · exact .next (h.hang limit core)

theorem execCmpTry_inv : LeadsToInv (execCmpTry s) := by
  simp only [execCmpTry]
  split
  · exact .next h.reject
  · exact .image h _ _

theorem execSnap_inv : LeadsToInv (execSnap s) := by
  unfold execSnap
  split
  · exact .raise h nofun
  · exact .ok (h.setBuffer _ _ _) _

theorem execSbRd_inv (b : Byte) : LeadsToInv (execSbRd b s) := by
  unfold execSbRd
  split
  · exact .ok h _
  · exact .raise h nofun

theorem execSbPush_inv : LeadsToInv (execSbPush s) := by
  unfold execSbPush
  split
  · exact .ok (h.setBuffer _ _ _) _
  · exact .raise h nofun

theorem execRestore_inv (alg : Alg) : LeadsToInv (execRestore alg s) := by
  unfold execRestore
  split
  · exact .raise h nofun
  · exact .ok (h.setCore _) _

/-- Every command that is met out of the hang ends in the invariant. -/
theorem exec_inv (i : Instr) : LeadsToInv (exec i s) := by
  cases i with
  | nop => exact .ok h _
  | clr => exact .ok (.clear s) _
  | stat => exact .ok h _
  | rdid => exact .ok h _
  | fnvInit => exact .ok (h.setHash _ _) _
  | fnvByte b => exact .guarded h (h.setHash _ _) s.hv _ nofun
  | fnvInt => exact .guarded h (h.setHash _ _) s.hv _ nofun
  | fnvRd32 => exact .guarded h h s.hv _ nofun
  | fnvRd64 => exact .guarded h h s.hv _ nofun
  | smLd32 => exact .ok (h.setZ32 _) _
  | smLd64 => exact .ok (h.setZ64 _) _
  | smLdh32 => exact .guarded h (h.setZ32 _) s.hv _ nofun
  | smLdh64 => exact .guarded h (h.setZ64 _) s.hv _ nofun
  | smNext32 => exact .guarded h (h.setZ32 _) s.z32v _ nofun
  | smNext64 => exact .guarded h (h.setZ64 _) s.z64v _ nofun
  | seed alg => exact .guarded h (h.setCore _) s.hv _ nofun
  | adv => exact execAdv_inv h
  | draw => exact execDraw_inv h
  | int32 => exact execInt32_inv h
  | double => exact execDouble_inv h
  | cmpTry => exact execCmpTry_inv h
  | snap => exact execSnap_inv h
  | sbRd b => exact execSbRd_inv h b
  | sbClr alg => exact .ok (h.setBuffer _ _ _) _
  | sbPush => exact execSbPush_inv h
  | restore alg => exact execRestore_inv h alg
  | sbInfo => exact .ok h _

end

/-! ### Every step -/

/-- The reset input leaves no response, no error and no hang (R251). -/
theorem State.pulseReset_inv (s : State) : s.pulseReset.Inv where
  response := nofun
  recorded := nofun
  retry := by rintro (h | ⟨r, h, -⟩) <;> cases h
  hang := nofun

theorem State.Inv.setInbox {s : State} (h : s.Inv) (inbox : List HostInput) : (s.setInbox inbox).Inv := { h with }

theorem step_inv {s : State} (h : s.Inv) : LeadsToInv (step s) := by
  rcases step_cases s with ⟨-, hstep⟩ | ⟨rest, -, hstep⟩ | ⟨cmd, arg, rest, -, -, hstep⟩ |
    ⟨cmd, arg, rest, why, -, hh, -, hstep⟩ | ⟨cmd, arg, rest, i, -, hh, -, hstep⟩ <;> rw [hstep]
  case inl => exact .next h
  case inr.inl => exact .next (State.pulseReset_inv _)
  case inr.inr.inl => exact .next (h.setInbox rest)
  case inr.inr.inr.inl => exact .raise (((h.running hh).setInbox rest).setArg arg) nofun
  case inr.inr.inr.inr => exact exec_inv (((h.running hh).setInbox rest).setArg arg) i

/-- Settles O56. -/
theorem everyStepKeepsTheInvariant : Obligations.EveryStepKeepsTheInvariant := by
  intro s t h hs
  obtain ⟨u, hu, inv⟩ := step_inv h
  rw [hs] at hu
  cases hu
  exact inv

end Sys2Proof.Machine
end

/-! ## The hash mixer (40_fnv_hash.md) -/

section
namespace Sys2Proof.Machine

theorem exec_fnvByte_noHash {s : State} (hv : s.hv = false) (b : Byte) :
    exec (.fnvByte b) s = .next (s.raise .noHash) :=
  if_neg (by simp [hv])

theorem exec_fnvRd32 {s : State} (hv : s.hv = true) : exec .fnvRd32 s = .next (s.ok (zext32 s.h32) 0) :=
  if_pos hv

theorem exec_fnvRd32_noHash {s : State} (hv : s.hv = false) : exec .fnvRd32 s = .next (s.raise .noHash) :=
  if_neg (by simp [hv])

theorem exec_fnvRd64 {s : State} (hv : s.hv = true) : exec .fnvRd64 s = .next (s.ok s.h64 0) :=
  if_pos hv

theorem exec_fnvRd64_noHash {s : State} (hv : s.hv = false) : exec .fnvRd64 s = .next (s.raise .noHash) :=
  if_neg (by simp [hv])

/-- Settles O14. -/
theorem fnvInitLoadsTheOffsetBases : Obligations.FnvInitLoadsTheOffsetBases := fun _ => rfl

/-- Settles O15: the command is the fold of the one byte, and `HV` stays as it was. -/
theorem fnvByteFoldsBothAccumulators : Obligations.FnvByteFoldsBothAccumulators := by
  refine fun b s => ⟨fun hv => ?_, fun hv => ?_⟩
  · rw [exec_fnvByte hv, State.foldBytes, State.setHash_of_hv hv]
    rfl
  · rw [exec_fnvByte_noHash hv, State.raise_eq]

/-- Settles O18. -/
theorem fnvReadsReturnTheAccumulators : Obligations.FnvReadsReturnTheAccumulators := by
  refine fun s => ⟨fun hv => ⟨exec_fnvRd32 hv, exec_fnvRd64 hv⟩, fun hv => ⟨?_, ?_⟩⟩
  · rw [exec_fnvRd32_noHash hv, State.raise_eq]
  · rw [exec_fnvRd64_noHash hv, State.raise_eq]

theorem runCommands_fnvInit_cons (s : State) (rest : List (Instr × Word64)) :
    runCommands ((.fnvInit, s.arg) :: rest) s = runCommands rest ((s.setHash fnv32Basis fnv64Basis).ok 0 0) := rfl

/-- After a command that gave the accumulators a value and succeeded, the `FNV.BYTE` commands of any sequence, the empty
one included, fold its bytes into that value (R90). -/
theorem runCommands_fnvBytes_setHash (s : State) (h32 : Word32) (h64 : Word64) (bytes : List Byte) :
    runCommands (bytes.map fun b => (.fnvByte b, s.arg)) ((s.setHash h32 h64).ok 0 0) =
      .next ((s.setHash (fnv32FoldAll h32 bytes) (fnv64FoldAll h64 bytes)).ok 0 0) := by
  cases bytes with
  | nil => rfl
  | cons b bytes => exact runCommands_fnvBytes (s := (s.setHash h32 h64).ok 0 0) rfl b bytes

/-- Settles O17: the fold starts from the offset bases that `FNV.INIT` left. -/
theorem hashIsTheFoldFromTheOffsetBasis : Obligations.HashIsTheFoldFromTheOffsetBasis := by
  intro bytes s
  rw [runCommands_fnvInit_cons, runCommands_fnvBytes_setHash]
  rfl

end Sys2Proof.Machine
end

/-! ## The expander (41_splitmix_expander.md) -/

section
namespace Sys2Proof.Machine

/-! ### The six commands -/

theorem exec_smLdh32 {s : State} (hv : s.hv = true) : exec .smLdh32 s = .next ((s.setZ32 s.h32).ok 0 0) :=
  if_pos hv

theorem exec_smLdh32_noHash {s : State} (hv : s.hv = false) : exec .smLdh32 s = .next (s.raise .noHash) :=
  if_neg (by simp [hv])

theorem exec_smLdh64 {s : State} (hv : s.hv = true) : exec .smLdh64 s = .next ((s.setZ64 s.h64).ok 0 0) :=
  if_pos hv

theorem exec_smLdh64_noHash {s : State} (hv : s.hv = false) : exec .smLdh64 s = .next (s.raise .noHash) :=
  if_neg (by simp [hv])

theorem exec_smNext32 {s : State} (z32v : s.z32v = true) :
    exec .smNext32 s = .next ((s.setZ32 (sm32Next s.cfg.smMode s.z32)).ok (zext32 (sm32Out s.z32)) 0) :=
  if_pos z32v

theorem exec_smNext32_noZ {s : State} (z32v : s.z32v = false) : exec .smNext32 s = .next (s.raise .noZ) :=
  if_neg (by simp [z32v])

theorem exec_smNext64 {s : State} (z64v : s.z64v = true) :
    exec .smNext64 s = .next ((s.setZ64 (sm64Next s.cfg.smMode s.z64)).ok (sm64Out s.z64) 0) :=
  if_pos z64v

theorem exec_smNext64_noZ {s : State} (z64v : s.z64v = false) : exec .smNext64 s = .next (s.raise .noZ) :=
  if_neg (by simp [z64v])

/-- Settles O19. -/
theorem expanderLoads : Obligations.ExpanderLoads := by
  refine fun s => ⟨rfl, rfl, fun hv => ⟨exec_smLdh32 hv, exec_smLdh64 hv⟩, fun hv => ⟨?_, ?_⟩⟩
  · rw [exec_smLdh32_noHash hv, State.raise_eq]
  · rw [exec_smLdh64_noHash hv, State.raise_eq]

/-- While the SplitMix32 expander holds a value, an update of it writes nothing else. -/
theorem State.setZ32_of_z32v {s : State} (z32v : s.z32v = true) (z : Word32) : s.setZ32 z = { s with z32 := z } := by
  rw [State.setZ32, ← z32v]

/-- While the SplitMix64 expander holds a value, an update of it writes nothing else. -/
theorem State.setZ64_of_z64v {s : State} (z64v : s.z64v = true) (z : Word64) : s.setZ64 z = { s with z64 := z } := by
  rw [State.setZ64, ← z64v]

/-- Settles O20: the mixes are the spec's lines, and the mode selects the value that is kept. -/
theorem smNextCommandsStepTheStreams : Obligations.SmNextCommandsStepTheStreams := by
  refine fun s => ⟨fun hz => ⟨fun hm => ?_, fun hm => ?_⟩, fun hz => ?_, fun hz => ⟨fun hm => ?_, fun hm => ?_⟩,
    fun hz => ?_⟩
  · rw [exec_smNext32 hz, State.setZ32_of_z32v hz, hm]
    rfl
  · rw [exec_smNext32 hz, State.setZ32_of_z32v hz, hm]
    rfl
  · rw [exec_smNext32_noZ hz, State.raise_eq]
  · rw [exec_smNext64 hz, State.setZ64_of_z64v hz, hm]
    rfl
  · rw [exec_smNext64 hz, State.setZ64_of_z64v hz, hm]
    rfl
  · rw [exec_smNext64_noZ hz, State.raise_eq]

/-! ### Reading out an expansion (R103, R112) -/

theorem runCommands_cons {s t : State} {i : Instr} {arg : Word64} (h : exec i (s.setArg arg) = .next t)
    (rest : List (Instr × Word64)) : runCommands ((i, arg) :: rest) s = runCommands rest t := by
  rw [runCommands, h]

/-- A command that steps a stream, issued `n + 1` times: `states z res` is the block with the stream at `z` after the
response `res`. The last response is word `n` of the stream, and the stream stands after `n + 1` steps. -/
theorem runCommands_replicate {w : Nat} {i : Instr} {arg : Word64} {states : BitVec w → Word64 → State}
    {next : BitVec w → BitVec w} {out : BitVec w → Word64}
    (steps : ∀ z res, exec i ((states z res).setArg arg) = .next (states (next z) (out z)))
    (n : Nat) (z : BitVec w) (res : Word64) :
    runCommands (List.replicate (n + 1) (i, arg)) (states z res) =
      .next (states (streamAfter next z (n + 1)) (out (streamAfter next z n))) := by
  induction n generalizing z res with
  | zero => exact runCommands_cons (steps z res) []
  | succ n ih =>
    rw [List.replicate_succ, runCommands_cons (steps z res)]
    exact ih (next z) (out z)

theorem runCommands_smNext32 (s : State) (z : Word32) (res : Word64) (n : Nat) :
    runCommands (List.replicate (n + 1) (.smNext32, s.arg)) ((s.setZ32 z).ok res 0) =
      .next ((s.setZ32 (expand32State s.cfg.smMode z (n + 1))).ok (zext32 (expand32 s.cfg.smMode z (n + 1))[n]) 0) := by
  rw [getElem_expand32]
  exact runCommands_replicate (states := fun z res => (s.setZ32 z).ok res 0) (out := fun z => zext32 (sm32Out z))
    (fun _ _ => exec_smNext32 rfl) n z res

theorem runCommands_smNext64 (s : State) (z res : Word64) (n : Nat) :
    runCommands (List.replicate (n + 1) (.smNext64, s.arg)) ((s.setZ64 z).ok res 0) =
      .next ((s.setZ64 (expand64State s.cfg.smMode z (n + 1))).ok (expand64 s.cfg.smMode z (n + 1))[n] 0) := by
  rw [getElem_expand64]
  exact runCommands_replicate (states := fun z res => (s.setZ64 z).ok res 0) (fun _ _ => exec_smNext64 rfl) n z res

/-- Settles O21: the load of the hash starts the stream, and each `SM.NEXT` answers with the word of the step it takes. -/
theorem nextCommandsReadOutTheExpansion : Obligations.NextCommandsReadOutTheExpansion :=
  fun s n hv =>
    ⟨⟨_, (runCommands_cons (exec_smLdh32 (s := s) hv) _).trans (runCommands_smNext32 s s.h32 0 n), rfl, rfl⟩,
      ⟨_, (runCommands_cons (exec_smLdh64 (s := s) hv) _).trans (runCommands_smNext64 s s.h64 0 n), rfl, rfl⟩⟩

/-! ### The mixes are bijections (R105) -/

/-- Two words with the same xorshift differ by a word that is its own shift, which is 0. -/
theorem xorShr_injective {n k : Nat} (hk : 0 < k) : Function.Injective fun z : BitVec n => xorShr z k := by
  intro x y h
  have shifted : x ^^^ y = (x ^^^ y) >>> k := by
    rw [BitVec.ushiftRight_xor_distrib, ← BitVec.xor_eq_zero_iff]
    calc (x ^^^ y) ^^^ (x >>> k ^^^ y >>> k)
        = (x ^^^ x >>> k) ^^^ (y ^^^ y >>> k) := by ac_rfl
      _ = 0#n := BitVec.xor_eq_zero_iff.2 h
  exact BitVec.xor_eq_zero_iff.1 ((eq_shiftRight_self_iff _ k hk).1 shifted)

/-- One line of a mix: a xorshift, then a multiplication by a number with an inverse. -/
theorem xorShr_mul_injective {n k : Nat} {c : BitVec n} (hk : 0 < k) (inverse : BitVec n) (hc : c * inverse = 1) :
    Function.Injective fun z : BitVec n => xorShr z k * c :=
  (IsUnit.of_mul_eq_one inverse hc).mul_left_injective.comp (xorShr_injective hk)

theorem mix32_bijective : Function.Bijective mix32 :=
  ((xorShr_injective (k := 16) (by decide)).comp
    ((xorShr_mul_injective (k := 13) (by decide) 0x7ed1b41d (by decide)).comp
      (xorShr_mul_injective (k := 16) (by decide) 0xa5cb9243 (by decide)))).bijective_of_finite

theorem mix64_bijective : Function.Bijective mix64 :=
  ((xorShr_injective (k := 31) (by decide)).comp
    ((xorShr_mul_injective (k := 27) (by decide) 0x319642b2d24d8ec3 (by decide)).comp
      (xorShr_mul_injective (k := 30) (by decide) 0x96de1b173f119089 (by decide)))).bijective_of_finite

/-! ### No two successive outputs are 0 (R105) -/

theorem mix32_zero : mix32 0 = 0 := by decide

theorem mix64_zero : mix64 0 = 0 := by decide

/-- The one state whose step outputs 0 is the negative of the increment. -/
theorem sm32Out_eq_zero_iff (z : Word32) : sm32Out z = 0 ↔ z = 0x61c88647 :=
  (mix32_bijective.injective.eq_iff' mix32_zero).trans eq_neg_iff_add_eq_zero.symm

theorem sm64Out_eq_zero_iff (z : Word64) : sm64Out z = 0 ↔ z = 0x61c8864680b583eb :=
  (mix64_bijective.injective.eq_iff' mix64_zero).trans eq_neg_iff_add_eq_zero.symm

/-- What a step keeps is 0 in either mode when both its values are. -/
theorem smKeeps_zero {n : Nat} (mode : SmMode) : smKeeps mode (0 : BitVec n) 0 = 0 := by cases mode <;> rfl

/-- After an output of 0 the stream stands at 0, whose step outputs the mix of the increment alone. -/
theorem sm32Next_of_out_eq_zero (mode : SmMode) {z : Word32} (h : sm32Out z = 0) : sm32Next mode z = 0 := by
  have incremented : z + 0x9e3779b9 = 0 := (mix32_bijective.injective.eq_iff' mix32_zero).1 h
  rw [sm32Next, h, incremented, smKeeps_zero]

theorem sm64Next_of_out_eq_zero (mode : SmMode) {z : Word64} (h : sm64Out z = 0) : sm64Next mode z = 0 := by
  have incremented : z + 0x9e3779b97f4a7c15 = 0 := (mix64_bijective.injective.eq_iff' mix64_zero).1 h
  rw [sm64Next, h, incremented, smKeeps_zero]

theorem sm32Out_not_zero_twice (mode : SmMode) (z : Word32) : ¬(sm32Out z = 0 ∧ sm32Out (sm32Next mode z) = 0) := by
  rintro ⟨first, second⟩
  rw [sm32Next_of_out_eq_zero mode first, sm32Out_eq_zero_iff] at second
  exact absurd second (by decide)

theorem sm64Out_not_zero_twice (mode : SmMode) (z : Word64) : ¬(sm64Out z = 0 ∧ sm64Out (sm64Next mode z) = 0) := by
  rintro ⟨first, second⟩
  rw [sm64Next_of_out_eq_zero mode first, sm64Out_eq_zero_iff] at second
  exact absurd second (by decide)

/-- The remap leaves a vector whose first two words are not both 0 (R104). -/
theorem nz_of_first_two {w n : Nat} (v : Vector (BitVec w) n) (hn : 2 ≤ n) (h : ¬(v[0] = 0 ∧ v[1] = 0)) :
    nz v = v := by
  rcases not_and_or.1 h with h0 | h1
  · exact nz_of_exists v 0 _ h0
  · exact nz_of_exists v 1 _ h1

/-- Settles O22: one of the first two words of an expansion is not 0, so the remap leaves it. -/
theorem twoSuccessiveOutputsAreNeverBothZero : Obligations.TwoSuccessiveOutputsAreNeverBothZero := by
  refine ⟨⟨fun _ _ h => mix32_bijective.injective h, mix32_bijective.surjective, fun _ _ h => mix64_bijective.injective h,
    mix64_bijective.surjective, mix32_zero, mix64_zero⟩, sm32Out_eq_zero_iff, sm64Out_eq_zero_iff, sm32Out_not_zero_twice,
    sm64Out_not_zero_twice, fun mode z n hn => nz_of_first_two _ hn ?_, fun mode z n hn => nz_of_first_two _ hn ?_⟩
  · rw [getElem_expand32, getElem_expand32]
    exact sm32Out_not_zero_twice mode z
  · rw [getElem_expand64, getElem_expand64]
    exact sm64Out_not_zero_twice mode z

end Sys2Proof.Machine
end

/-! ## The xorshift registers (42_xorshift_cores.md rules R121 and R125) -/

section
namespace Sys2Proof.Machine

/-- Settles O23: `ADV` is one advance of the core, and the advance of each register is its rule's lines. -/
theorem advOnTheXorshiftRegisters : Obligations.AdvOnTheXorshiftRegisters := by
  refine fun s => ⟨fun x y z w hc => ?_, fun x y z w v d hc => ?_⟩
  · rw [exec_adv_w32 hc, advance32, advXs128]
    rfl
  · rw [exec_adv_w32 hc, advance32, advXorwow]
    rfl

end Sys2Proof.Machine
end

/-! ## The xoshiro and xoroshiro cores (43_xoshiro_cores.md rules R136 to R140) -/

section
namespace Sys2Proof.Machine

theorem exec_adv_w64 {s : State} {c : Core64} (hc : s.core = some (.w64 c)) :
    exec .adv s = .next ((s.setCore (.w64 (advance64 s.cfg c).1)).ok (advance64 s.cfg c).2 0) := by
  rw [exec, execAdv, hc]

/-! ### One advance -/

/-- The six assignments of the update in closed form (R136). -/
theorem xo128Update_eq (a b c d : Word32) :
    xo128Update ⟨a, b, c, d⟩ =
      ⟨a ^^^ d ^^^ b, b ^^^ c ^^^ a, c ^^^ a ^^^ b <<< 9, (d ^^^ b).rotateLeft 11⟩ := by
  simp only [xo128Update, rotl32_eq_rotateLeft _ 11 (by decide), BitVec.xor_assoc]

theorem advXo128pp_snd (c : Xo128) : (advXo128pp c).2 = (c.s0 + c.s3).rotateLeft 7 + c.s0 := by
  rw [advXo128pp, rotl32_eq_rotateLeft _ 7 (by decide)]

/-- The update with the constants of either triple (R140). -/
theorem advXoro128p_eq (abc : XoroAbc) (s0 s1 : Word64) :
    advXoro128p abc ⟨s0, s1⟩ =
      (⟨s0.rotateLeft (xoroTriple abc).1 ^^^ (s1 ^^^ s0) ^^^ (s1 ^^^ s0) <<< (xoroTriple abc).2.1,
        (s1 ^^^ s0).rotateLeft (xoroTriple abc).2.2⟩, s0 + s1) := by
  have rotations : (xoroTriple abc).1 < 64 ∧ (xoroTriple abc).2.2 < 64 := by cases abc <;> decide
  rw [← rotl64_eq_rotateLeft _ _ rotations.1, ← rotl64_eq_rotateLeft _ _ rotations.2]
  rfl

/-- Settles O26: `ADV` is one advance of the core, in the closed form of its rule. -/
theorem advOnTheXoshiroAndXoroshiroCores : Obligations.AdvOnTheXoshiroAndXoroshiroCores := by
  refine ⟨fun s a b c d => ⟨fun hc => ?_, fun hc => ?_⟩, fun s s0 s1 hc => ⟨fun habc => ?_, fun habc => ?_⟩⟩
  · rw [exec_adv_w32 hc, advance32, advXo128pp_snd, advXo128pp, xo128Update_eq]
    rfl
  · rw [exec_adv_w32 hc, advance32, advXo128p, xo128Update_eq]
    rfl
  · rw [exec_adv_w64 hc, advance64, advXoro128p_eq, habc]
    rfl
  · rw [exec_adv_w64 hc, advance64, advXoro128p_eq, habc]
    rfl

/-! ### The sequence of states (R139) -/

/-- When each advance of the cores of one form is a function `next` of their words, `n` advances are `n` steps of it. -/
theorem coreAfter_eq_iterate {α : Type} {cfg : Config} {core : α → Core32} {next : α → α}
    (advances : ∀ c, (advance32 cfg (core c)).1 = core (next c)) (c : α) (n : Nat) :
    coreAfter cfg (core c) n = core (next^[n] c) := by
  induction n with
  | zero => rfl
  | succ n ih => rw [coreAfter, ih, advances, Function.iterate_succ_apply']

theorem coreAfter_xo128pp (cfg : Config) (c : Xo128) (n : Nat) :
    coreAfter cfg (.xo128pp c) n = .xo128pp (xo128Update^[n] c) :=
  coreAfter_eq_iterate (core := .xo128pp) (fun _ => rfl) c n

theorem coreAfter_xo128p (cfg : Config) (c : Xo128) (n : Nat) :
    coreAfter cfg (.xo128p c) n = .xo128p (xo128Update^[n] c) :=
  coreAfter_eq_iterate (core := .xo128p) (fun _ => rfl) c n

/-- Settles O28: the common state is that of `n` updates, and each core outputs its own sum of it. -/
theorem xoshiroCoresPassThroughTheSameStates : Obligations.XoshiroCoresPassThroughTheSameStates := by
  refine fun cfg c n => ⟨xo128Update^[n] c, coreAfter_xo128pp cfg c n, coreAfter_xo128p cfg c n, ?_, ?_⟩
  · rw [outputAt, coreAfter_xo128pp, advance32, advXo128pp_snd]
  · rw [outputAt, coreAfter_xo128p, advance32, advXo128p]

end Sys2Proof.Machine
end

/-! ## Construction of a core from the hash (44_seed_construct.md) -/

section
namespace Sys2Proof.Machine

/-! ### `SEED` (R161, R162) -/

theorem exec_seed_noHash {s : State} (hv : s.hv = false) (alg : Alg) : exec (.seed alg) s = .next (s.raise .noHash) :=
  if_neg (by simp [hv])

/-- Settles O30. -/
theorem seedBuildsTheCoreOfTheHash : Obligations.SeedBuildsTheCoreOfTheHash := by
  refine fun alg s => ⟨fun hv => ⟨construct_alg _ _ _ _, exec_seed hv alg⟩, fun hv => ?_⟩
  rw [exec_seed_noHash hv, State.raise_eq]

/-! ### The seeded SplitMix cores (R159) -/

theorem construct_sm32 (cfg : Config) (h32 : Word32) (h64 : Word64) : construct cfg .sm32 h32 h64 = .w32 (.sm32 h32) := rfl

theorem construct_sm64 (cfg : Config) (h32 : Word32) (h64 : Word64) : construct cfg .sm64 h32 h64 = .w64 (.sm64 h64) := rfl

theorem exec_seed_sm32 {s : State} (hv : s.hv = true) :
    exec (.seed .sm32) s = .next ((s.setCore (.w32 (.sm32 s.h32))).ok 0 0) := by
  rw [exec_seed hv, construct_sm32]

theorem exec_seed_sm64 {s : State} (hv : s.hv = true) :
    exec (.seed .sm64) s = .next ((s.setCore (.w64 (.sm64 s.h64))).ok 0 0) := by
  rw [exec_seed hv, construct_sm64]

/-- `ADV` on an SM32 core is a step of the stream on the core's own word (R141). -/
theorem exec_adv_sm32 {s : State} {z : Word32} (hc : s.core = some (.w32 (.sm32 z))) :
    exec .adv s = .next ((s.setCore (.w32 (.sm32 (sm32Next s.cfg.smMode z)))).ok (zext32 (sm32Out z)) 0) :=
  exec_adv_w32 hc

/-- `ADV` on an SM64 core is a step of the stream on the core's own word (R142). -/
theorem exec_adv_sm64 {s : State} {z : Word64} (hc : s.core = some (.w64 (.sm64 z))) :
    exec .adv s = .next ((s.setCore (.w64 (.sm64 (sm64Next s.cfg.smMode z)))).ok (sm64Out z) 0) :=
  exec_adv_w64 hc

theorem runCommands_adv_sm32 (s : State) (z : Word32) (res : Word64) (n : Nat) :
    runCommands (List.replicate (n + 1) (.adv, s.arg)) ((s.setCore (.w32 (.sm32 z))).ok res 0) =
      .next ((s.setCore (.w32 (.sm32 (expand32State s.cfg.smMode z (n + 1))))).ok
        (zext32 (expand32 s.cfg.smMode z (n + 1))[n]) 0) := by
  rw [getElem_expand32]
  exact runCommands_replicate (states := fun z res => (s.setCore (.w32 (.sm32 z))).ok res 0)
    (out := fun z => zext32 (sm32Out z)) (fun _ _ => exec_adv_sm32 rfl) n z res

theorem runCommands_adv_sm64 (s : State) (z res : Word64) (n : Nat) :
    runCommands (List.replicate (n + 1) (.adv, s.arg)) ((s.setCore (.w64 (.sm64 z))).ok res 0) =
      .next ((s.setCore (.w64 (.sm64 (expand64State s.cfg.smMode z (n + 1))))).ok
        (expand64 s.cfg.smMode z (n + 1))[n] 0) := by
  rw [getElem_expand64]
  exact runCommands_replicate (states := fun z res => (s.setCore (.w64 (.sm64 z))).ok res 0)
    (fun _ _ => exec_adv_sm64 rfl) n z res

/-- Settles O27: the seeded core is the stream at the hash, and each `ADV` answers with the word of the step it takes. -/
theorem seededSplitMixCoresGiveTheExpansion : Obligations.SeededSplitMixCoresGiveTheExpansion :=
  ⟨fun _ _ _ => ⟨rfl, rfl⟩, fun s n hv =>
    ⟨⟨_, (runCommands_cons (exec_seed_sm32 (s := s) hv) _).trans (runCommands_adv_sm32 s s.h32 0 n), rfl⟩,
      ⟨_, (runCommands_cons (exec_seed_sm64 (s := s) hv) _).trans (runCommands_adv_sm64 s s.h64 0 n), rfl⟩⟩⟩

/-! ### The discard and diffusion rounds (R152, R155, R160)

A function of the core that each round changes in one way is changed in that way once per round
(`Function.Semiconj.iterate_right`). -/

theorem construct_w32 {cfg : Config} {alg : Alg} {h32 : Word32} {h64 : Word64} {c : Core32}
    (initial : initialCore cfg.smMode alg h32 h64 = .w32 c) :
    construct cfg alg h32 h64 = .w32 ((fun c => (advance32 cfg c).1)^[discardRounds alg] c) := by
  have advances : Function.Semiconj Core.w32 (fun c => (advance32 cfg c).1) (advanceCore cfg) := fun _ => rfl
  rw [construct_eq_iterate, initial]
  exact (advances.iterate_right _ c).symm

theorem construct_w64 {cfg : Config} {alg : Alg} {h32 : Word32} {h64 : Word64} {c : Core64}
    (initial : initialCore cfg.smMode alg h32 h64 = .w64 c) :
    construct cfg alg h32 h64 = .w64 ((fun c => (advance64 cfg c).1)^[discardRounds alg] c) := by
  have advances : Function.Semiconj Core.w64 (fun c => (advance64 cfg c).1) (advanceCore cfg) := fun _ => rfl
  rw [construct_eq_iterate, initial]
  exact (advances.iterate_right _ c).symm

theorem construct_xs7 (cfg : Config) (h32 : Word32) (h64 : Word64) :
    construct cfg .xs7 h32 h64 = .w32 (.xs7 ((fun c => (advXs7 c).1)^[256] (initialXs7 cfg.smMode h32))) := by
  have advances : Function.Semiconj Core32.xs7 (fun c => (advXs7 c).1) (fun c => (advance32 cfg c).1) := fun _ => rfl
  rw [construct_w32 rfl, advances.iterate_right]
  rfl

theorem construct_xorwow (cfg : Config) (h32 : Word32) (h64 : Word64) :
    construct cfg .xorwow h32 h64 = .w32 (.xorwow ((fun c => (advXorwow c).1)^[64] (initialXorwow cfg.smMode h32))) := by
  have advances : Function.Semiconj Core32.xorwow (fun c => (advXorwow c).1) (fun c => (advance32 cfg c).1) :=
    fun _ => rfl
  rw [construct_w32 rfl, advances.iterate_right]
  rfl

/-- An XS4096 core has no discard rounds after its diffusion. -/
theorem construct_xs4096 (cfg : Config) (h32 : Word32) (h64 : Word64) :
    construct cfg .xs4096 h32 h64 = .w32 (.xs4096 (xs4096Round^[512] (filledXs4096 cfg.smMode h32))) := by
  rw [← initialXs4096_eq_iterate]
  exact construct_w32 rfl

theorem advXs7_iterate_i (n : Nat) (c : Xs7) : ((fun c => (advXs7 c).1)^[n] c).i = c.i + n • 1 := by
  have step : Function.Semiconj Xs7.i (fun c => (advXs7 c).1) (· + 1) := fun _ => rfl
  rw [step.iterate_right, add_right_iterate]

theorem advXorwow_iterate_d (n : Nat) (c : Xorwow) : ((fun c => (advXorwow c).1)^[n] c).d = c.d + n • 362437 := by
  have step : Function.Semiconj Xorwow.d (fun c => (advXorwow c).1) (· + 362437) := fun _ => rfl
  rw [step.iterate_right, add_right_iterate]

theorem xs4096Round_iterate_i (n : Nat) (c : Xs4096) : (xs4096Round^[n] c).i = c.i + n • 1 := by
  have step : Function.Semiconj Xs4096.i xs4096Round (· + 1) := fun _ => rfl
  rw [step.iterate_right, add_right_iterate]

/-- The table rounds hold the Weyl counter. -/
theorem xs4096Round_iterate_w (n : Nat) (c : Xs4096) : (xs4096Round^[n] c).w = c.w := by
  have held : Function.Semiconj Xs4096.w xs4096Round id := fun _ => rfl
  rw [held.iterate_right, Function.iterate_id, id]

/-- The table round by its taps, its one write and its index modulo 128 (R52, R123). -/
theorem xs4096Round_eq (c : Xs4096) :
    xs4096Round c = ⟨c.X.set ((c.i.toNat + 1) % 128)
        (xs4096Mix (c.X[(c.i.toNat + 34) % 128]'(Nat.mod_lt _ (by decide)))
          (c.X[(c.i.toNat + 1) % 128]'(Nat.mod_lt _ (by decide)))) (Nat.mod_lt _ (by decide)),
      BitVec.ofNat 7 ((c.i.toNat + 1) % 128), c.w⟩ := by
  rw [xs4096Round, xs4096RoundWord_eq]
  exact congrArg (Xs4096.mk _ · _) (add_one_eq_ofNat_mod c.i)

theorem firstWords_five {w n : Nat} (h : 5 ≤ n) (v : Vector (BitVec w) n) :
    firstWords 5 h v = #v[v[0], v[1], v[2], v[3], v[4]] := rfl

/-- Settles O31: each core is its initial state after its rounds, and the rounds step the counter and the index. -/
theorem constructedCoresStandWhereTheRulesSay : Obligations.ConstructedCoresStandWhereTheRulesSay := by
  intro cfg h32 h64 advanced32 advanced64 W4 W6 V5 W129 U2 tap left right mixed round
  have rounds : round = xs4096Round := funext fun c => (xs4096Round_eq c).symm
  have xorwow : initialXorwow cfg.smMode h32 = ⟨V5[0], V5[1], V5[2], V5[3], V5[4], W6[5]⟩ := by
    rw [initialXorwow, firstWords_five]
  refine ⟨construct_w32 rfl, construct_w32 rfl, ?_, construct_w32 (congrArg (Core.w32 ∘ Core32.xorwow) xorwow),
    construct_w32 rfl, construct_w32 rfl, construct_w64 rfl, construct_sm32 _ _ _, construct_sm64 _ _ _,
    ⟨_, construct_xorwow _ _ _, ?_⟩, ⟨_, construct_xs4096 _ _ _, xs4096Round_iterate_w _ _, ?_⟩,
    ⟨_, construct_xs7 _ _ _, ?_⟩⟩
  · rw [rounds]
    exact construct_xs4096 _ _ _
  · rw [advXorwow_iterate_d, xorwow]
    rfl
  · rw [xs4096Round_iterate_i]
    rfl
  · rw [advXs7_iterate_i]
    rfl

/-! ### The remap and the linear-feedback words (R104, R163) -/

theorem getElem_unitWords_zero {w n : Nat} (hn : 0 < n) : (unitWords n : Vector (BitVec w) n)[0] = 1 := by
  simp [unitWords]

/-- The remap leaves no all-zero vector: one that is not itself became `(1, 0, …, 0)`. -/
theorem exists_getElem_nz_ne_zero {w n : Nat} (hw : 0 < w) (hn : 0 < n) (v : Vector (BitVec w) n) :
    ∃ (k : Nat) (hk : k < n), (nz v)[k] ≠ 0#w := by
  by_cases zero : ∀ k (hk : k < n), v[k] = 0
  · refine ⟨0, hn, ?_⟩
    simp only [nz_of_zero v zero, getElem_unitWords_zero hn]
    simpa using hw.ne'
  · push Not at zero
    obtain ⟨k, hk, nonzero⟩ := zero
    exact ⟨k, hk, by rwa [nz_of_exists v k hk nonzero]⟩

theorem nz_all_eq_zero {w n : Nat} (hw : 0 < w) (hn : 0 < n) (v : Vector (BitVec w) n) :
    (nz v).toList.all (· == 0) = false := by
  obtain ⟨k, hk, nonzero⟩ := exists_getElem_nz_ne_zero hw hn v
  exact List.all_eq_false.2 ⟨(nz v)[k], by simp, by simpa using nonzero⟩

/-- The Weyl counter is no linear-feedback word. -/
theorem registerZero_xs4096_weyl (c : Xs4096) (w : Word32) :
    registerZero (.w32 (.xs4096 { c with w := w })) = registerZero (.w32 (.xs4096 c)) := rfl

/-- The table round is an advance but for the Weyl counter (R124). -/
theorem registerZero_xs4096Round (c : Xs4096) :
    registerZero (.w32 (.xs4096 (xs4096Round c))) = registerZero (.w32 (.xs4096 c)) := by
  rw [← registerZero_advXs4096 c, advXs4096]
  exact (registerZero_xs4096_weyl _ _).symm

theorem registerZero_xs4096Round_iterate (n : Nat) (c : Xs4096) :
    registerZero (.w32 (.xs4096 (xs4096Round^[n] c))) = registerZero (.w32 (.xs4096 c)) := by
  have kept : Function.Semiconj (fun c => registerZero (.w32 (.xs4096 c))) xs4096Round id := registerZero_xs4096Round
  exact (kept.iterate_right n c).trans (by rw [Function.iterate_id, id])

theorem registerZero_construct (cfg : Config) (alg : Alg) (h32 : Word32) (h64 : Word64) :
    registerZero (construct cfg alg h32 h64) = registerZero (initialCore cfg.smMode alg h32 h64) := by
  have kept : Function.Semiconj registerZero (advanceCore cfg) id := onlyAZeroRegisterAdvancesToZero cfg
  rw [construct_eq_iterate, kept.iterate_right, Function.iterate_id, id]

theorem registerZero_initialXs128 (mode : SmMode) (h32 : Word32) :
    registerZero (.w32 (.xs128 (initialXs128 mode h32))) = false := by
  obtain ⟨k, hk, nonzero⟩ := exists_getElem_nz_ne_zero (by decide) (by decide) (expand32 mode h32 4)
  interval_cases k <;> simp [registerZero, initialXs128, nonzero]

theorem registerZero_initialXo128 (mode : SmMode) (h32 : Word32) :
    registerZero (.w32 (.xo128p (initialXo128 mode h32))) = false :=
  registerZero_initialXs128 mode h32

theorem registerZero_initialXorwow (mode : SmMode) (h32 : Word32) :
    registerZero (.w32 (.xorwow (initialXorwow mode h32))) = false := by
  obtain ⟨k, hk, nonzero⟩ :=
    exists_getElem_nz_ne_zero (by decide) (by decide) (firstWords 5 (by decide) (expand32 mode h32 6))
  interval_cases k <;> simp [registerZero, initialXorwow, nonzero]

theorem registerZero_initialXoro128 (mode : SmMode) (h64 : Word64) :
    registerZero (.w64 (.xoro128p (initialXoro128 mode h64))) = false := by
  obtain ⟨k, hk, nonzero⟩ := exists_getElem_nz_ne_zero (by decide) (by decide) (expand64 mode h64 2)
  interval_cases k <;> simp [registerZero, initialXoro128, nonzero]

theorem registerZero_initialXs7 (mode : SmMode) (h32 : Word32) :
    registerZero (.w32 (.xs7 (initialXs7 mode h32))) = false := by
  rw [registerZero, initialXs7, nz_all_eq_zero (by decide) (by decide)]

theorem registerZero_initialXs4096 (mode : SmMode) (h32 : Word32) :
    registerZero (.w32 (.xs4096 (initialXs4096 mode h32))) = false := by
  rw [initialXs4096_eq_iterate, registerZero_xs4096Round_iterate, registerZero, filledXs4096,
    nz_all_eq_zero (by decide) (by decide)]

/-- The words every algorithm starts from went through the remap (R153 to R158). -/
theorem registerZero_initialCore (mode : SmMode) (alg : Alg) (h32 : Word32) (h64 : Word64) :
    registerZero (initialCore mode alg h32 h64) = false := by
  cases alg
  case xs128 => exact registerZero_initialXs128 mode h32
  case xs7 => exact registerZero_initialXs7 mode h32
  case xs4096 => exact registerZero_initialXs4096 mode h32
  case xorwow => exact registerZero_initialXorwow mode h32
  case xo128pp => exact registerZero_initialXo128 mode h32
  case xo128p => exact registerZero_initialXo128 mode h32
  case xoro128p => exact registerZero_initialXoro128 mode h64
  case sm32 => rfl
  case sm64 => rfl

/-- Settles O32: the remap leaves a word that is not zero, and no round makes the register zero. -/
theorem seedNeverLeavesAZeroRegister : Obligations.SeedNeverLeavesAZeroRegister := by
  refine fun alg s hv => ⟨_, _, exec_seed hv alg, rfl, construct_alg _ _ _ _, ?_⟩
  rw [registerZero_construct, registerZero_initialCore]

end Sys2Proof.Machine
end

/-! ## Numerators and their binary64 images (45_draw_facade.md rules R172, R175 to R177) -/

section
namespace Sys2Proof.Machine

/-! ### The numerators (R172, R176, R179) -/

/-- The two parts of a composed numerator lie side by side (R176). -/
theorem compose53_toNat (a b : Word32) : (compose53 a b).toNat = a.toNat / 2 ^ 11 * 2 ^ 32 + b.toNat := by
  have upper : a.toNat / 2 ^ 11 % 2 ^ 21 = a.toNat / 2 ^ 11 := Nat.mod_eq_of_lt (by omega)
  rw [compose53, BitVec.toNat_append, BitVec.extractLsb'_toNat, Nat.shiftRight_eq_div_pow, upper,
    ← Nat.shiftLeft_add_eq_or_of_lt b.isLt, Nat.shiftLeft_eq]

theorem compose53_eq_zero_iff (a b : Word32) : compose53 a b = 0 ↔ a.toNat < 2 ^ 11 ∧ b = 0 := by
  simp only [← BitVec.toNat_inj, compose53_toNat, BitVec.ofNat_eq_ofNat, BitVec.toNat_ofNat, Nat.zero_mod]
  omega

/-- The numerator `CMP.TRY` composes, from the whole operand (R59, R176). -/
theorem compose53_arg_toNat (s : State) :
    (compose53 s.argHigh s.argLow).toNat = s.arg.toNat / 2 ^ 43 * 2 ^ 32 + s.arg.toNat % 2 ^ 32 := by
  rw [compose53_toNat, State.argHigh, State.argLow, BitVec.extractLsb'_toNat, BitVec.extractLsb'_toNat,
    Nat.shiftRight_eq_div_pow, Nat.shiftRight_zero]
  omega

theorem frac53Of32_eq (out : Word32) : frac53Of32 out = out.setWidth 53 <<< 21 := by
  have shifted := BitVec.setWidth_append_eq_shiftLeft_setWidth_or (w'' := 53) (b := out) (b' := 0#21)
  rwa [BitVec.setWidth_zero, BitVec.or_zero, BitVec.setWidth_eq] at shifted

theorem frac53Of64_eq (out : Word64) : frac53Of64 out = (out >>> 11).setWidth 53 :=
  BitVec.setWidth_ushiftRight_eq_extractLsb.symm

theorem zext53_toNat (n : Frac53) : (zext53 n).toNat = n.toNat := by
  rw [zext53, BitVec.toNat_setWidth]
  omega

theorem zext53_frac53Of64 (out : Word64) : zext53 (frac53Of64 out) = out >>> 11 := by
  apply BitVec.eq_of_toNat_eq
  rw [zext53_toNat, frac53Of64_eq, BitVec.toNat_setWidth, BitVec.toNat_ushiftRight, Nat.shiftRight_eq_div_pow]
  omega

/-- Settles O38: the numerator as a number decides when it is zero and what it depends on. -/
theorem composedValueIsZeroExactlyWhen : Obligations.ComposedValueIsZeroExactlyWhen := by
  refine ⟨compose53_toNat, compose53_eq_zero_iff, fun a a' b upper => BitVec.eq_of_toNat_eq ?_⟩
  rw [compose53_toNat, compose53_toNat, upper]

/-! ### The image of a numerator that is not zero (R175)

With `p` the position of its most significant 1, the numerator moved to the top is `n * 2 ^ (52 - p)`; its leading 1, at bit
52, is the hidden one of the format. -/

section
variable {n : Frac53} (hn : n ≠ 0)
include hn

theorem f64OfFrac53_fields : f64OfFrac53 n =
    0#1 ++ BitVec.ofNat 11 (970 + n.toNat.log2) ++ BitVec.ofNat 52 (n.toNat * 2 ^ (52 - n.toNat.log2)) :=
  if_neg hn

theorem frac53_toNat_ne_zero : n.toNat ≠ 0 := fun h => hn (BitVec.eq_of_toNat_eq h)

theorem frac53_log2_le : n.toNat.log2 ≤ 52 :=
  Nat.le_of_lt_succ ((Nat.log2_lt (frac53_toNat_ne_zero hn)).2 n.isLt)

theorem f64OfFrac53_msb : (f64OfFrac53 n).msb = false := by
  rw [f64OfFrac53_fields hn, BitVec.msb_append, BitVec.msb_append]
  rfl

/-- The biased exponent. -/
theorem f64OfFrac53_exponent : ((f64OfFrac53 n).extractLsb' 52 11).toNat = 970 + n.toNat.log2 := by
  have := frac53_log2_le hn
  rw [f64OfFrac53_fields hn, BitVec.extractLsb'_append_eq_of_le (by decide), Nat.sub_self,
    BitVec.extractLsb'_append_eq_right, BitVec.toNat_ofNat, Nat.mod_eq_of_lt (by omega)]

/-- The numerator moved to the top has its leading 1 at bit 52. -/
theorem frac53_normalized :
    2 ^ 52 ≤ n.toNat * 2 ^ (52 - n.toNat.log2) ∧ n.toNat * 2 ^ (52 - n.toNat.log2) < 2 ^ 53 := by
  have position := frac53_log2_le hn
  constructor
  · calc 2 ^ 52 = 2 ^ n.toNat.log2 * 2 ^ (52 - n.toNat.log2) := by rw [← pow_add, Nat.add_sub_cancel' position]
      _ ≤ _ := Nat.mul_le_mul_right _ (Nat.log2_self_le (frac53_toNat_ne_zero hn))
  · calc _ < 2 ^ (n.toNat.log2 + 1) * 2 ^ (52 - n.toNat.log2) :=
          Nat.mul_lt_mul_of_pos_right Nat.lt_log2_self (Nat.two_pow_pos _)
      _ = 2 ^ 53 := by rw [← pow_add]; congr 1; omega

/-- The fraction with the hidden 1. -/
theorem f64OfFrac53_significand :
    2 ^ 52 + ((f64OfFrac53 n).extractLsb' 0 52).toNat = n.toNat * 2 ^ (52 - n.toNat.log2) := by
  obtain ⟨lower, upper⟩ := frac53_normalized hn
  rw [f64OfFrac53_fields hn, BitVec.extractLsb'_append_eq_right, BitVec.toNat_ofNat]
  omega

end

/-- Settles O39: the exponent undoes the move of the numerator to the top. -/
theorem binaryImageHasExactlyTheValue : Obligations.BinaryImageHasExactlyTheValue := by
  refine ⟨rfl, fun n hn => ?_⟩
  have position := frac53_log2_le hn
  simp only [f64OfFrac53_exponent hn, f64OfFrac53_significand hn]
  refine ⟨f64OfFrac53_msb hn, by omega, by omega, ?_⟩
  rw [mul_assoc, ← pow_add, show 52 - n.toNat.log2 + (970 + n.toNat.log2) = 1022 by omega]

end Sys2Proof.Machine
end

/-! ## `ADV`, `DRAW`, `INT32` and `CMP.TRY` (45_draw_facade.md rules R171, R172, R174, R181) -/

section
namespace Sys2Proof.Machine

section
variable {s : State}

theorem exec_draw_w32 {c : Core32} (hc : s.core = some (.w32 c)) :
    exec .draw s = .next ((s.setCore (.w32 (advance32 s.cfg c).1)).ok (zext32 (advance32 s.cfg c).2)
      (f64OfFrac53 (frac53Of32 (advance32 s.cfg c).2))) := by
  rw [exec, execDraw, hc]

theorem exec_draw_w64 {c : Core64} (hc : s.core = some (.w64 c)) :
    exec .draw s = .next ((s.setCore (.w64 (advance64 s.cfg c).1)).ok (advance64 s.cfg c).2
      (f64OfFrac53 (frac53Of64 (advance64 s.cfg c).2))) := by
  rw [exec, execDraw, hc]

theorem exec_int32_w32 {c : Core32} (hc : s.core = some (.w32 c)) :
    exec .int32 s = .next ((s.setCore (.w32 (advance32 s.cfg c).1)).ok (sext32 (advance32 s.cfg c).2) 0) := by
  rw [exec, execInt32, hc]

theorem exec_int32_w64 {c : Core64} (hc : s.core = some (.w64 c)) :
    exec .int32 s = .next ((s.setCore (.w64 (advance64 s.cfg c).1)).ok (sext32 (highHalf (advance64 s.cfg c).2)) 0) := by
  rw [exec, execInt32, hc]

theorem exec_cmpTry_reject (zero : compose53 s.argHigh s.argLow = 0) :
    exec .cmpTry s = .next (s.respond .reject 0 0) :=
  if_pos zero

theorem exec_cmpTry_accept (nonzero : compose53 s.argHigh s.argLow ≠ 0) :
    exec .cmpTry s = .next (s.ok (zext53 (compose53 s.argHigh s.argLow)) (f64OfFrac53 (compose53 s.argHigh s.argLow))) :=
  if_neg nonzero

end

theorem sext32_toInt (v : Word32) : (sext32 v).toInt = v.toInt := BitVec.toInt_signExtend_of_le (by decide)

theorem highHalf_eq (v : Word64) : highHalf v = (v >>> 32).setWidth 32 := BitVec.setWidth_ushiftRight_eq_extractLsb.symm

/-- Settles O33. -/
theorem drawReturnsTheFraction : Obligations.DrawReturnsTheFraction := by
  refine fun s => ⟨fun c hc => ?_, fun c hc => ?_, fun hc => ?_⟩
  · rw [exec_draw_w32 hc, frac53Of32_eq]
    rfl
  · rw [exec_draw_w64 hc, frac53Of64_eq]
    rfl
  · rw [exec_single_draw_unseeded (.inr (.inl rfl)) hc, State.raise_eq]

/-- Settles O34: the sign extension keeps the signed value. -/
theorem int32ReturnsTheSignedWord : Obligations.Int32ReturnsTheSignedWord := by
  refine fun s => ⟨fun c hc => ⟨_, sext32_toInt _, exec_int32_w32 hc⟩, fun c hc => ⟨_, ?_, exec_int32_w64 hc⟩, fun hc => ?_⟩
  · rw [sext32_toInt, highHalf_eq]
  · rw [exec_single_draw_unseeded (.inr (.inr rfl)) hc, State.raise_eq]

/-- Settles O35. -/
theorem advReturnsTheRawOutput : Obligations.AdvReturnsTheRawOutput := by
  refine fun s => ⟨fun c hc => exec_adv_w32 hc, fun c hc => exec_adv_w64 hc, fun hc => ?_⟩
  rw [exec_single_draw_unseeded (.inl rfl) hc, State.raise_eq]

/-- Settles O37: the composed numerator decides between the two answers. -/
theorem cmpTryComposesOrRejects : Obligations.CmpTryComposesOrRejects :=
  fun s => ⟨compose53 s.argHigh s.argLow, compose53_arg_toNat s, exec_cmpTry_reject, exec_cmpTry_accept⟩

end Sys2Proof.Machine
end

/-! ## The retry loop of `DOUBLE` (45_draw_facade.md rules R178 to R180, 60_exceptions.md rule R237) -/

section
namespace Sys2Proof.Machine

/-! ### A loop over finitely many states comes back

A core is determined by its tag and its snapshot (R205), so the cores the loop passes through are at most `coreBound` many;
a loop that rejected that many pairs is back at a core it was at before. -/

/-- When a code with values in a finite type determines the states of an iteration, a property that holds for as many of
them as there are codes holds for all. -/
theorem forall_iterate_of_forall_lt_card {α β : Type} [Fintype β] {f : α → α} {a : α} {code : α → β}
    (determines : ∀ i j, code (f^[i] a) = code (f^[j] a) → f^[i] a = f^[j] a) {p : α → Prop}
    (first : ∀ k, k < Fintype.card β → p (f^[k] a)) (k : Nat) : p (f^[k] a) := by
  obtain ⟨i, j, hij, hj, same⟩ : ∃ i j, i < j ∧ j ≤ Fintype.card β ∧ f^[i] a = f^[j] a := by
    obtain ⟨x, y, hne, codes⟩ := Fintype.exists_ne_map_eq_of_card_lt
      (fun k : Fin (Fintype.card β + 1) => code (f^[k] a)) (by rw [Fintype.card_fin]; exact Nat.lt_succ_self _)
    rcases lt_or_gt_of_ne (Fin.val_ne_of_ne hne) with h | h
    · exact ⟨x, y, h, Nat.le_of_lt_succ y.isLt, determines _ _ codes⟩
    · exact ⟨y, x, h, Nat.le_of_lt_succ x.isLt, determines _ _ codes.symm⟩
  induction k using Nat.strongRecOn with
  | ind k ih =>
    by_cases hk : k < j
    · exact first k (by omega)
    · have back : f^[k] a = f^[k - j + i] a := by
        rw [Function.iterate_add_apply, same, ← Function.iterate_add_apply, Nat.sub_add_cancel (Nat.le_of_not_lt hk)]
      rw [back]
      exact ih _ (by omega)

theorem card_words (n : Nat) : Fintype.card (Fin n → Word32) = 2 ^ (32 * n) := by
  rw [Fintype.card_fun, Fintype.card_fin, ← FinEnum.card_eq_fintypeCard, FinEnum.card_bitVec, pow_mul]

/-- The words of a table and its index, zero-extended, determine both and the words that follow (R197). -/
theorem append_index_inj {n w : Nat} (hw : w ≤ 32) {X Y : Vector Word32 n} {i j : BitVec w} {rest rest' : List Word32}
    (h : X.toList ++ i.setWidth 32 :: rest = Y.toList ++ j.setWidth 32 :: rest') : X = Y ∧ i = j ∧ rest = rest' := by
  obtain ⟨table, tail⟩ := List.append_inj h (by simp)
  obtain ⟨index, hrest⟩ := List.cons.inj tail
  refine ⟨Vector.toList_inj.1 table, ?_, hrest⟩
  simpa [BitVec.setWidth_setWidth_of_le _ hw] using congrArg (BitVec.setWidth w) index

/-- A 32-bit core is determined by its algorithm and its snapshot (R205). -/
theorem snapWords32_inj {c d : Core32} (alg : c.alg = d.alg) (words : snapWords32 c = snapWords32 d) : c = d := by
  cases c with
  | xs128 c => cases d with
    | xs128 d => cases c; cases d; simpa [snapWords32] using words
    | _ => cases alg
  | xs7 c => cases d with
    | xs7 d =>
      obtain ⟨X, i⟩ := c
      obtain ⟨Y, j⟩ := d
      obtain ⟨rfl, rfl, -⟩ := append_index_inj (by decide) words
      rfl
    | _ => cases alg
  | xs4096 c => cases d with
    | xs4096 d =>
      obtain ⟨X, i, w⟩ := c
      obtain ⟨Y, j, v⟩ := d
      obtain ⟨rfl, rfl, weyl⟩ := append_index_inj (by decide) words
      cases weyl
      rfl
    | _ => cases alg
  | xorwow c => cases d with
    | xorwow d => cases c; cases d; simpa [snapWords32] using words
    | _ => cases alg
  | xo128pp c => cases d with
    | xo128pp d => cases c; cases d; simpa [snapWords32] using words
    | _ => cases alg
  | xo128p c => cases d with
    | xo128p d => cases c; cases d; simpa [snapWords32] using words
    | _ => cases alg
  | sm32 z => cases d with
    | sm32 z' => simpa [snapWords32] using words
    | _ => cases alg

/-- The snapshot of a core as `NWORDS(alg)` words. -/
def snapCode (alg : Alg) (c : Core32) : Fin (nwords alg).val → Word32 := fun k => (snapWords32 c).getD k 0

theorem snapCode_inj {alg : Alg} {c d : Core32} (hc : c.alg = alg) (hd : d.alg = alg) (h : snapCode alg c = snapCode alg d) :
    c = d := by
  have length (e : Core32) (he : e.alg = alg) : (snapWords32 e).length = (nwords alg).val :=
    he ▸ snapWords_length (.w32 e)
  refine snapWords32_inj (hc.trans hd.symm) (List.ext_getElem ((length c hc).trans (length d hd).symm) fun k hk hk' => ?_)
  have word := congrFun h ⟨k, length c hc ▸ hk⟩
  simpa only [snapCode, List.getD_eq_getElem _ _ hk, List.getD_eq_getElem _ _ hk'] using word

theorem pairCore_iterate_alg (cfg : Config) (c : Core32) (k : Nat) : ((pairCore cfg)^[k] c).alg = c.alg := by
  induction k with
  | zero => rfl
  | succ k ih => rw [Function.iterate_succ_apply', pairCore_eq, coreAfter_alg, ih]

/-- Pair `k` is the pair drawn from the core after `k` pairs. -/
theorem pairAt_eq_iterate (cfg : Config) (c : Core32) (k : Nat) : pairAt cfg c k = pairFrac cfg ((pairCore cfg)^[k] c) := by
  induction k generalizing c with
  | zero => rfl
  | succ k ih => rw [pairAt_succ, ih, Function.iterate_succ_apply]

/-- A core that rejects `coreBound` pairs rejects for ever (log entry 6). -/
theorem pairAt_eq_zero_of_forall_lt_coreBound (cfg : Config) (c : Core32)
    (h : ∀ k, k < coreBound c → pairAt cfg c k = 0) (k : Nat) : pairAt cfg c k = 0 := by
  simp only [pairAt_eq_iterate] at h ⊢
  refine forall_iterate_of_forall_lt_card (code := snapCode c.alg) (p := fun d => pairFrac cfg d = 0) (fun i j codes => ?_)
    (fun k hk => h k ?_) k
  · exact snapCode_inj (pairCore_iterate_alg cfg c i) (pairCore_iterate_alg cfg c j) codes
  · rwa [card_words] at hk

/-! ### The cores that are known to hang (R237) -/

theorem stuckAtZero_iff (c : Core32) :
    stuckAtZero c = true ↔ registerZero (.w32 c) = true ∧
      (c.alg = .xs128 ∨ c.alg = .xs7 ∨ c.alg = .xo128pp ∨ c.alg = .xo128p) := by
  cases c <;> simp [stuckAtZero, registerZero, Core32.alg]

/-- An advance keeps the zero register and the algorithm (R43, R143). -/
theorem stuckAtZero_advance32 {cfg : Config} {c : Core32} (h : stuckAtZero c = true) :
    stuckAtZero (advance32 cfg c).1 = true := by
  rw [stuckAtZero_iff] at h ⊢
  rw [advance32_alg]
  exact ⟨(onlyAZeroRegisterAdvancesToZero cfg (.w32 c)).trans h.1, h.2⟩

theorem advXs7_snd_of_zero {c : Xs7} (zero : ∀ j, read8 c.X j = 0) : (advXs7 c).2 = 0 := by
  simp [advXs7, zero]

/-- The outputs of the four cores are sums and rotations of their words (R207). -/
theorem advance32_snd_of_stuckAtZero {cfg : Config} {c : Core32} (h : stuckAtZero c = true) : (advance32 cfg c).2 = 0 := by
  cases c with
  | xs128 c =>
    obtain ⟨x, y, z, w⟩ := c
    simp only [stuckAtZero, Bool.and_eq_true, beq_iff_eq] at h
    obtain ⟨⟨⟨rfl, rfl⟩, rfl⟩, rfl⟩ := h
    rfl
  | xs7 c => exact advXs7_snd_of_zero ((registerZero_xs7 c).1 h)
  | xo128pp c => rw [(registerZero_xo128pp c).1 h]; rfl
  | xo128p c => rw [(registerZero_xo128p c).1 h]; rfl
  | xs4096 c => cases h
  | xorwow c => cases h
  | sm32 z => cases h

theorem outputAt_of_stuckAtZero {cfg : Config} {c : Core32} (h : stuckAtZero c = true) (n : Nat) : outputAt cfg c n = 0 := by
  have stuck : stuckAtZero (coreAfter cfg c n) = true := by
    induction n with
    | zero => exact h
    | succ n ih => exact stuckAtZero_advance32 ih
  exact advance32_snd_of_stuckAtZero stuck

theorem pairAt_of_stuckAtZero {cfg : Config} {c : Core32} (h : stuckAtZero c = true) (k : Nat) : pairAt cfg c k = 0 := by
  rw [pairAt, outputAt_of_stuckAtZero h, outputAt_of_stuckAtZero h]
  rfl

/-! ### The unbounded loop (R180) -/

/-- The unbounded loop ends with the first pair that is not rejected: the bound is never in its way. -/
theorem tryForever_found {cfg : Config} {c : Core32} {r : Nat} (rejected : ∀ k, k < r → pairAt cfg c k = 0)
    (accepted : pairAt cfg c r ≠ 0) :
    tryForever cfg c = .found (coreAfter cfg c (2 * (r + 1))) (pairAt cfg c r) := by
  have moves : ¬stuckAtZero c = true := fun h => accepted (pairAt_of_stuckAtZero h r)
  have within : r < coreBound c := by
    by_contra h
    exact accepted (pairAt_eq_zero_of_forall_lt_coreBound cfg c (fun k hk => rejected k (by omega)) r)
  rw [tryForever, if_neg moves, tryPairs_found cfg _ r c within rejected accepted]

theorem tryForever_exhausted {cfg : Config} {c : Core32} (rejected : ∀ k, pairAt cfg c k = 0) :
    ∃ c', tryForever cfg c = .exhausted c' := by
  unfold tryForever
  split
  · exact ⟨_, rfl⟩
  · exact ⟨_, tryPairs_exhausted cfg _ c fun k _ => rejected k⟩

/-! ### `DOUBLE` -/

/-- The retry loop under the configured limit (R178, R180). -/
def retryLoop (cfg : Config) (c : Core32) : PairSearch :=
  match cfg.retryLimit with
  | .finite limit _ => tryPairs cfg limit c
  | .inf => tryForever cfg c

theorem retryLoop_finite {cfg : Config} {limit : Nat} {positive : 0 < limit} (hl : cfg.retryLimit = .finite limit positive)
    (c : Core32) : retryLoop cfg c = tryPairs cfg limit c := by
  rw [retryLoop, hl]

theorem retryLoop_inf {cfg : Config} (hl : cfg.retryLimit = .inf) (c : Core32) : retryLoop cfg c = tryForever cfg c := by
  rw [retryLoop, hl]

section
variable {s : State}

theorem exec_double_unseeded (hc : s.core = none) : exec .double s = .next (s.raise .unseeded) := by
  rw [exec, execDouble, hc]

theorem exec_double_w64 {c : Core64} (hc : s.core = some (.w64 c)) :
    exec .double s = .next ((s.setCore (.w64 (advance64 s.cfg c).1)).ok (zext53 (frac53Of64 (advance64 s.cfg c).2))
      (f64OfFrac53 (frac53Of64 (advance64 s.cfg c).2))) := by
  rw [exec, execDouble, hc]

variable {c : Core32} (hc : s.core = some (.w32 c))
include hc

theorem exec_double_found {c' : Core32} {n : Frac53} (search : retryLoop s.cfg c = .found c' n) :
    exec .double s = .next ((s.setCore (.w32 c')).ok (zext53 n) (f64OfFrac53 n)) := by
  rw [exec, execDouble, hc]
  cases hl : s.cfg.retryLimit with
  | finite limit positive => rw [retryLoop_finite hl] at search; simp only [search]
  | inf => rw [retryLoop_inf hl] at search; simp only [search]

theorem exec_double_gives_up {limit : Nat} {positive : 0 < limit} (hl : s.cfg.retryLimit = .finite limit positive)
    {c' : Core32} (search : retryLoop s.cfg c = .exhausted c') :
    exec .double s = .next ((s.setCore (.w32 c')).raise .retry) := by
  rw [retryLoop_finite hl] at search
  simp only [exec, execDouble, hc, hl, search]

theorem exec_double_hangs (hl : s.cfg.retryLimit = .inf) {c' : Core32} (search : retryLoop s.cfg c = .exhausted c') :
    exec .double s = .next s.hang := by
  rw [retryLoop_inf hl] at search
  simp only [exec, execDouble, hc, hl, search]

end

/-- The loop finds the first accepted pair, unless a limit stops it before. -/
theorem retryLoop_found {cfg : Config} {c : Core32} {r : Nat} (rejected : ∀ k, k < r → pairAt cfg c k = 0)
    (accepted : pairAt cfg c r ≠ 0)
    (limit : cfg.retryLimit = .inf ∨ ∃ limit positive, cfg.retryLimit = .finite limit positive ∧ r < limit) :
    retryLoop cfg c = .found (coreAfter cfg c (2 * (r + 1))) (pairAt cfg c r) := by
  rcases limit with hl | ⟨limit, positive, hl, hr⟩
  · rw [retryLoop_inf hl, tryForever_found rejected accepted]
  · rw [retryLoop_finite hl, tryPairs_found cfg limit r c hr rejected accepted]

/-- Settles O36. -/
theorem doubleOnA64BitCoreIsOneAdvance : Obligations.DoubleOnA64BitCoreIsOneAdvance := by
  refine fun s => ⟨fun c hc => ?_, fun hc => ?_⟩
  · rw [exec_double_w64 hc, zext53_frac53Of64, frac53Of64_eq]
    rfl
  · rw [exec_double_unseeded hc, State.raise_eq]

/-- Settles O40. -/
theorem doubleRespondsWithTheFirstAcceptedPair : Obligations.DoubleRespondsWithTheFirstAcceptedPair :=
  fun _ _ _ hc rejected accepted limit => exec_double_found hc (retryLoop_found rejected accepted limit)

/-- Settles O41: the first pair that is not rejected, if there is one, is answered; a hang has no answer. -/
theorem doubleHangsExactlyWhenEveryPairIsRejected : Obligations.DoubleHangsExactlyWhenEveryPairIsRejected := by
  refine fun s c hc hl => ⟨fun hang => ?_, fun rejected => ?_⟩
  · by_contra exists_accepted
    push Not at exists_accepted
    have rejected : ∀ k, k < Nat.find exists_accepted → pairAt s.cfg c k = 0 := fun k hk =>
      not_not.1 (Nat.find_min exists_accepted hk)
    rw [exec_double_found hc (retryLoop_found rejected (Nat.find_spec exists_accepted) (.inl hl))] at hang
    have answer := congrArg State.rsp (Host.Outcome.next.inj hang)
    cases answer
  · obtain ⟨c', search⟩ := tryForever_exhausted rejected
    exact exec_double_hangs hc hl ((retryLoop_inf hl c).trans search)

/-- Settles O42. -/
theorem doubleGivesUpAtTheRetryLimit : Obligations.DoubleGivesUpAtTheRetryLimit := by
  intro s c limit positive hc hl rejected
  rw [exec_double_gives_up hc hl ((retryLoop_finite hl c).trans (tryPairs_exhausted s.cfg limit c rejected)), State.raise_eq]
  rfl

end Sys2Proof.Machine
end

/-! ## The ranges of draws (45_draw_facade.md rule R182) -/

section
namespace Sys2Proof.Machine

/-! ### Successes that carry values in range -/

/-- A command that ends in a next state whose response, if it is a success, carries values that satisfy `P`. -/
def SucceedsWith (P : Word64 → Word64 → Prop) (result : Result) : Prop :=
  ∃ t, result = .next t ∧ ∀ r f, t.rsp = some ⟨.ok, r, f⟩ → P r f

namespace SucceedsWith

variable {P : Word64 → Word64 → Prop} {s u : State}

theorem elim {result : Result} (h : SucceedsWith P result) {t : State} (ht : result = .next t) {r f : Word64}
    (hr : t.rsp = some ⟨.ok, r, f⟩) : P r f := by
  obtain ⟨t', ht', carries⟩ := h
  cases ht.symm.trans ht'
  exact carries r f hr

theorem ok {r f : Word64} (h : P r f) : SucceedsWith P (.next (u.ok r f)) :=
  ⟨_, rfl, by rintro _ _ ⟨⟩; exact h⟩

theorem raise (e : ErrCode) : SucceedsWith P (.next (s.raise e)) := ⟨_, rfl, nofun⟩

theorem reject : SucceedsWith P (.next (s.respond .reject 0 0)) := ⟨_, rfl, nofun⟩

theorem hang : SucceedsWith P (.next s.hang) := ⟨_, rfl, nofun⟩

/-- A command that goes on exactly while a flag is set, and else ends with one error. -/
theorem guarded (flag : Bool) (e : ErrCode) {r f : Word64} (h : P r f) :
    SucceedsWith P (if flag then .next (u.ok r f) else .next (s.raise e)) := by
  cases flag with
  | true => exact .ok h
  | false => exact .raise e

end SucceedsWith

/-! ### The three draws -/

/-- `INT32` answers with a sign-extended word, whatever the core. -/
theorem exec_int32_succeedsWith (s : State) {P : Word64 → Word64 → Prop} (word : ∀ v, P (sext32 v) 0) :
    SucceedsWith P (exec .int32 s) := by
  rcases hc : s.core with _ | c | c
  · rw [exec_single_draw_unseeded (.inr (.inr rfl)) hc]; exact .raise _
  · rw [exec_int32_w32 hc]; exact .ok (word _)
  · rw [exec_int32_w64 hc]; exact .ok (word _)

/-- The retry loop finds no pair that composes to zero. -/
theorem ne_zero_of_retryLoop_found {cfg : Config} {c c' : Core32} {n : Frac53} (h : retryLoop cfg c = .found c' n) :
    n ≠ 0 := by
  have accepted {attempts : Nat} (h : tryPairs cfg attempts c = .found c' n) : n ≠ 0 := by
    obtain ⟨r, -, -, nonzero, -, rfl⟩ := tryPairs_eq_found _ _ _ _ _ h
    exact nonzero
  cases hl : cfg.retryLimit with
  | finite limit positive => exact accepted (retryLoop_finite hl c ▸ h)
  | inf =>
    rw [retryLoop_inf hl, tryForever] at h
    split at h
    · cases h
    · exact accepted h

/-- `DOUBLE` on a 32-bit core answers with a numerator that is not zero, if it answers with a success. -/
theorem exec_double_w32_succeedsWith {s : State} {c : Core32} (hc : s.core = some (.w32 c))
    {P : Word64 → Word64 → Prop} (accepted : ∀ n, n ≠ 0 → P (zext53 n) (f64OfFrac53 n)) :
    SucceedsWith P (exec .double s) := by
  cases search : retryLoop s.cfg c with
  | found c' n =>
    rw [exec_double_found hc search]
    exact .ok (accepted n (ne_zero_of_retryLoop_found search))
  | exhausted c' =>
    cases hl : s.cfg.retryLimit with
    | finite limit positive => rw [exec_double_gives_up hc hl search]; exact .raise _
    | inf => rw [exec_double_hangs hc hl search]; exact .hang

/-! ### No image is a NaN, an infinity or negative -/

/-- The patterns below the one of 1.0. -/
def BelowOne (f : Word64) : Prop := f.toNat < 0x3ff0000000000000

theorem belowOne_zero : BelowOne 0 := zero_below_one

theorem exec_draw_belowOne (s : State) : SucceedsWith (fun _ f => BelowOne f) (exec .draw s) := by
  rcases hc : s.core with _ | c | c
  · rw [exec_single_draw_unseeded (.inr (.inl rfl)) hc]; exact .raise _
  · rw [exec_draw_w32 hc]; exact .ok (f64OfFrac53_lt_one _)
  · rw [exec_draw_w64 hc]; exact .ok (f64OfFrac53_lt_one _)

theorem exec_double_belowOne (s : State) : SucceedsWith (fun _ f => BelowOne f) (exec .double s) := by
  rcases hc : s.core with _ | c | c
  · rw [exec_double_unseeded hc]; exact .raise _
  · exact exec_double_w32_succeedsWith hc fun n _ => f64OfFrac53_lt_one n
  · rw [exec_double_w64 hc]; exact .ok (f64OfFrac53_lt_one _)

theorem exec_cmpTry_belowOne (s : State) : SucceedsWith (fun _ f => BelowOne f) (exec .cmpTry s) := by
  by_cases zero : compose53 s.argHigh s.argLow = 0
  · rw [exec_cmpTry_reject zero]; exact .reject
  · rw [exec_cmpTry_accept zero]; exact .ok (f64OfFrac53_lt_one _)

theorem exec_adv_belowOne (s : State) : SucceedsWith (fun _ f => BelowOne f) (exec .adv s) := by
  rcases hc : s.core with _ | c | c
  · rw [exec_single_draw_unseeded (.inl rfl) hc]; exact .raise _
  · rw [exec_adv_w32 hc]; exact .ok belowOne_zero
  · rw [exec_adv_w64 hc]; exact .ok belowOne_zero

theorem execSnap_belowOne (s : State) : SucceedsWith (fun _ f => BelowOne f) (execSnap s) := by
  unfold execSnap
  split
  · exact .raise _
  · exact .ok belowOne_zero

theorem execSbRd_belowOne (b : Byte) (s : State) : SucceedsWith (fun _ f => BelowOne f) (execSbRd b s) := by
  unfold execSbRd
  split
  · exact .ok belowOne_zero
  · exact .raise _

theorem execSbPush_belowOne (s : State) : SucceedsWith (fun _ f => BelowOne f) (execSbPush s) := by
  unfold execSbPush
  split
  · exact .ok belowOne_zero
  · exact .raise _

theorem execRestore_belowOne (alg : Alg) (s : State) : SucceedsWith (fun _ f => BelowOne f) (execRestore alg s) := by
  unfold execRestore
  split
  · exact .raise _
  · exact .ok belowOne_zero

/-- `FRES` of a success is 0, or the image of a numerator, which is below 1.0. -/
theorem exec_belowOne (i : Instr) (s : State) : SucceedsWith (fun _ f => BelowOne f) (exec i s) := by
  cases i with
  | nop => exact .ok belowOne_zero
  | clr => exact .ok belowOne_zero
  | stat => exact .ok belowOne_zero
  | rdid => exact .ok belowOne_zero
  | fnvInit => exact .ok belowOne_zero
  | fnvByte b => exact .guarded s.hv _ belowOne_zero
  | fnvInt => exact .guarded s.hv _ belowOne_zero
  | fnvRd32 => exact .guarded s.hv _ belowOne_zero
  | fnvRd64 => exact .guarded s.hv _ belowOne_zero
  | smLd32 => exact .ok belowOne_zero
  | smLd64 => exact .ok belowOne_zero
  | smLdh32 => exact .guarded s.hv _ belowOne_zero
  | smLdh64 => exact .guarded s.hv _ belowOne_zero
  | smNext32 => exact .guarded s.z32v _ belowOne_zero
  | smNext64 => exact .guarded s.z64v _ belowOne_zero
  | seed alg => exact .guarded s.hv _ belowOne_zero
  | adv => exact exec_adv_belowOne s
  | draw => exact exec_draw_belowOne s
  | int32 => exact exec_int32_succeedsWith s fun _ => belowOne_zero
  | double => exact exec_double_belowOne s
  | cmpTry => exact exec_cmpTry_belowOne s
  | snap => exact execSnap_belowOne s
  | sbRd b => exact execSbRd_belowOne b s
  | sbClr alg => exact .ok belowOne_zero
  | sbPush => exact execSbPush_belowOne s
  | restore alg => exact execRestore_belowOne alg s
  | sbInfo => exact .ok belowOne_zero

/-! ### The ranges of `RES` -/

theorem exec_draw_w32_range {s : State} {c : Core32} (hc : s.core = some (.w32 c)) :
    SucceedsWith (fun r _ => r.toNat < 2 ^ 32) (exec .draw s) := by
  rw [exec_draw_w32 hc]
  refine .ok ?_
  rw [zext32, BitVec.toNat_setWidth]
  omega

theorem exec_double_w32_range {s : State} {c : Core32} (hc : s.core = some (.w32 c)) :
    SucceedsWith (fun r _ => 1 ≤ r.toNat ∧ r.toNat < 2 ^ 53) (exec .double s) := by
  refine exec_double_w32_succeedsWith hc fun n hn => ?_
  rw [zext53_toNat]
  exact ⟨Nat.one_le_iff_ne_zero.2 (frac53_toNat_ne_zero hn), n.isLt⟩

theorem exec_double_w64_range {s : State} {c : Core64} (hc : s.core = some (.w64 c)) :
    SucceedsWith (fun r _ => r.toNat < 2 ^ 53) (exec .double s) := by
  rw [exec_double_w64 hc]
  refine .ok ?_
  rw [zext53_toNat]
  exact BitVec.isLt _

theorem exec_int32_range (s : State) :
    SucceedsWith (fun r _ => -2 ^ 31 ≤ r.toInt ∧ r.toInt ≤ 2 ^ 31 - 1) (exec .int32 s) := by
  refine exec_int32_succeedsWith s fun v => ?_
  rw [sext32_toInt]
  exact ⟨BitVec.le_toInt v, Int.le_sub_one_of_lt BitVec.toInt_lt⟩

/-- Settles O44. -/
theorem drawsStayInTheirRanges : Obligations.DrawsStayInTheirRanges := by
  refine ⟨fun i s t r f ht hr => ⟨(exec_belowOne i s).elim ht hr, ?_, ?_, ?_, ?_⟩, fun s c hc => ?_⟩
  · rintro rfl c hc
    exact (exec_draw_w32_range hc).elim ht hr
  · rintro rfl c hc
    exact (exec_double_w32_range hc).elim ht hr
  · rintro rfl c hc
    exact (exec_double_w64_range hc).elim ht hr
  · rintro rfl
    exact (exec_int32_range s).elim ht hr
  · exact ⟨_, _, _, _, _, exec_draw_w64 hc, exec_double_w64 hc, rfl, rfl⟩

end Sys2Proof.Machine
end

/-! ## The words of a snapshot (20_memory.md rule R55, 46_snapshot.md rules R196 to R198, R205)

The buffer stands for a core exactly when it holds the words of the core's snapshot, so `SNAP` and `RESTORE` are inverse. -/

section
namespace Sys2Proof.Machine

/-! ### Halves and index words -/

theorem lowHalf_eq (v : Word64) : lowHalf v = v.setWidth 32 := (BitVec.setWidth_eq_extractLsb' (by decide)).symm

theorem lowHalf_joinHalves (lo hi : Word32) : lowHalf (joinHalves lo hi) = lo := BitVec.extractLsb'_append_eq_right

theorem highHalf_joinHalves (lo hi : Word32) : highHalf (joinHalves lo hi) = hi := BitVec.extractLsb'_append_eq_left

theorem joinHalves_lowHalf_highHalf (v : Word64) : joinHalves (lowHalf v) (highHalf v) = v :=
  (BitVec.extractLsb'_append_extractLsb'_eq_extractLsb' rfl).trans BitVec.extractLsb'_eq_self

/-- The two words of a 64-bit word determine it, and it them (R55). -/
theorem joinHalves_eq_iff (lo hi : Word32) (v : Word64) : joinHalves lo hi = v ↔ lowHalf v = lo ∧ highHalf v = hi := by
  constructor
  · rintro rfl
    exact ⟨lowHalf_joinHalves lo hi, highHalf_joinHalves lo hi⟩
  · rintro ⟨rfl, rfl⟩
    exact joinHalves_lowHalf_highHalf v

/-- An index word in range stands for the index whose zero extension it is (R196, R198). -/
theorem index_eq_iff {w last : Nat} (hw : w ≤ 32) (hl : last + 1 = 2 ^ w) (word : Word32) (i : BitVec w) :
    word.toNat ≤ last ∧ word.setWidth w = i ↔ i.setWidth 32 = word := by
  constructor
  · rintro ⟨inRange, rfl⟩
    apply BitVec.eq_of_toNat_eq
    rw [BitVec.toNat_setWidth_of_le hw, BitVec.toNat_setWidth, Nat.mod_eq_of_lt (by omega)]
  · rintro rfl
    rw [BitVec.toNat_setWidth_of_le hw, BitVec.setWidth_setWidth_of_le _ hw, BitVec.setWidth_eq]
    exact ⟨by omega, rfl⟩

/-- Settles O48. -/
theorem snapshotWordLayout : Obligations.SnapshotWordLayout := by
  refine ⟨fun _ _ _ _ => rfl, fun X i => ?_, fun X i w => ?_, fun _ _ _ _ _ _ => rfl, fun _ _ _ _ => rfl,
    fun _ _ _ _ => rfl, fun a b => ?_, fun _ => rfl, fun z => ?_⟩
  · rw [BitVec.ofNat_toNat]
    rfl
  · rw [BitVec.ofNat_toNat]
    rfl
  · rw [snapWords, snapWords64, lowHalf_eq, lowHalf_eq, highHalf_eq, highHalf_eq]
  · rw [snapWords, snapWords64, lowHalf_eq, highHalf_eq]

/-! ### The words a buffer holds -/

/-- The buffer holds the words of a list at the indices `j`, `j + 1`, … -/
def HoldsFrom (L : Vector Word32 130) (j : Nat) (ws : List Word32) : Prop :=
  ∀ (k : Nat) (h : k < ws.length) (h' : j + k < 130), ws[k] = L[j + k]

section
variable {L : Vector Word32 130} {j : Nat}

theorem holdsFrom_zero {ws : List Word32} :
    HoldsFrom L 0 ws ↔ ∀ (k : Nat) (h : k < ws.length) (h' : k < 130), ws[k] = L[k] := by
  simp only [HoldsFrom, Nat.zero_add]

@[simp] theorem holdsFrom_nil : HoldsFrom L j [] := fun _ h => absurd h (Nat.not_lt_zero _)

@[simp] theorem holdsFrom_cons (hj : j < 130) {w : Word32} {ws : List Word32} :
    HoldsFrom L j (w :: ws) ↔ w = L[j] ∧ HoldsFrom L (j + 1) ws := by
  constructor
  · intro h
    refine ⟨h 0 (Nat.zero_lt_succ _) hj, fun k hk hk' => ?_⟩
    have word := h (k + 1) (Nat.succ_lt_succ hk) (by omega)
    simpa only [List.getElem_cons_succ, Nat.add_assoc, Nat.add_comm 1 k] using word
  · rintro ⟨rfl, h⟩ (_ | k) hk hk'
    · rfl
    · have word := h k (Nat.lt_of_succ_lt_succ hk) (by omega)
      simpa only [List.getElem_cons_succ, Nat.add_assoc, Nat.add_comm 1 k] using word

/-- A table is held with the words after it when it is the words at its indices and those are held behind it. -/
@[simp] theorem holdsFrom_table {m : Nat} (hm : j + m ≤ 130) {X : Vector Word32 m} {ws : List Word32} :
    HoldsFrom L j (X.toList ++ ws) ↔ wordsAt L j m hm = X ∧ HoldsFrom L (j + m) ws := by
  constructor
  · intro h
    refine ⟨Vector.ext fun k hk => ?_, fun k hk hk' => ?_⟩
    · have word := h k (by rw [List.length_append, Vector.length_toList]; omega) (by omega)
      rw [List.getElem_append_left (by simpa using hk)] at word
      simpa using word.symm
    · have word := h (m + k) (by simpa using hk) (by omega)
      simpa [List.getElem_append_right, Nat.add_assoc] using word
  · rintro ⟨rfl, h⟩ k hk hk'
    by_cases inTable : k < m
    · rw [List.getElem_append_left (by simpa using inTable)]
      simp
    · rw [List.length_append, Vector.length_toList] at hk
      have word := h (k - m) (by omega) (by omega)
      rw [List.getElem_append_right (by simpa using inTable)]
      simpa [show j + m + (k - m) = j + k by omega] using word

end

theorem coreOfWords_xs7_eq_some_iff (X : Vector Word32 8) (i : BitVec 3) (L : Vector Word32 130) :
    coreOfWords .xs7 L = some (.w32 (.xs7 ⟨X, i⟩)) ↔ HoldsFrom L 0 (X.toList ++ [i.setWidth 32]) :=
  calc coreOfWords .xs7 L = some (.w32 (.xs7 ⟨X, i⟩))
    _ ↔ L[8].toNat ≤ 7 ∧ wordsAt L 0 8 (by decide) = X ∧ L[8].setWidth 3 = i := by simp [coreOfWords]
    _ ↔ wordsAt L 0 8 (by decide) = X ∧ i.setWidth 32 = L[8] := by
      rw [and_left_comm, index_eq_iff (by decide) (by decide)]
    _ ↔ HoldsFrom L 0 (X.toList ++ [i.setWidth 32]) := by simp

theorem coreOfWords_xs4096_eq_some_iff (X : Vector Word32 128) (i : BitVec 7) (w : Word32) (L : Vector Word32 130) :
    coreOfWords .xs4096 L = some (.w32 (.xs4096 ⟨X, i, w⟩)) ↔ HoldsFrom L 0 (X.toList ++ [i.setWidth 32, w]) :=
  calc coreOfWords .xs4096 L = some (.w32 (.xs4096 ⟨X, i, w⟩))
    _ ↔ L[128].toNat ≤ 127 ∧ wordsAt L 0 128 (by decide) = X ∧ L[128].setWidth 7 = i ∧ L[129] = w := by
      simp [coreOfWords]
    _ ↔ wordsAt L 0 128 (by decide) = X ∧ i.setWidth 32 = L[128] ∧ w = L[129] := by
      rw [and_left_comm, ← and_assoc (b := _ = i), index_eq_iff (by decide) (by decide), eq_comm (a := w)]
    _ ↔ HoldsFrom L 0 (X.toList ++ [i.setWidth 32, w]) := by simp

/-- The words of an algorithm stand for a core of it exactly when they are the words of its snapshot (R197, R198). -/
theorem coreOfWords_alg_eq_some_iff (c : Core) (L : Vector Word32 130) :
    coreOfWords c.alg L = some c ↔ HoldsFrom L 0 (snapWords c) := by
  cases c with
  | w32 c =>
    rw [Core.alg, snapWords]
    cases c with
    | xs128 c => cases c; simp [coreOfWords, snapWords32, Core32.alg, eq_comm]
    | xs7 c => exact coreOfWords_xs7_eq_some_iff c.X c.i L
    | xs4096 c => exact coreOfWords_xs4096_eq_some_iff c.X c.i c.w L
    | xorwow c => cases c; simp [coreOfWords, snapWords32, Core32.alg, eq_comm]
    | xo128pp c => cases c; simp [coreOfWords, snapWords32, Core32.alg, eq_comm]
    | xo128p c => cases c; simp [coreOfWords, snapWords32, Core32.alg, eq_comm]
    | sm32 z => simp [coreOfWords, snapWords32, Core32.alg, eq_comm]
  | w64 c =>
    rw [Core.alg, snapWords]
    cases c with
    | xoro128p c => cases c; simp [coreOfWords, snapWords64, Core64.alg, joinHalves_eq_iff, and_assoc]
    | sm64 z => simp [coreOfWords, snapWords64, Core64.alg, joinHalves_eq_iff]

/-- The words of a core, written to any buffer, are held by it and are restored to the core (R205). -/
theorem restoreWords_writeWords_snapWords (c : Core) (sb : Vector Word32 130) :
    restoreWords c.alg (some c.alg) (nwords c.alg) (writeWords sb 0 (snapWords c)) = some c := by
  have held : HoldsFrom (writeWords sb 0 (snapWords c)) 0 (snapWords c) :=
    holdsFrom_zero.2 fun k h hk => (getElem_writeWords_zero_of_lt sb _ k h hk).symm
  exact (restoreWords_eq_some _ _ _ _ _).2 ⟨rfl, rfl, (coreOfWords_alg_eq_some_iff c _).2 held⟩

/-- What a restored core says of the buffer: its tag, its length and the words it holds (R198, R205). -/
theorem restoreWords_inversion {alg : Alg} {tag : Option Alg} {len : Fin 131} {L : Vector Word32 130} {c : Core}
    (h : restoreWords alg tag len L = some c) :
    c.alg = alg ∧ len = nwords c.alg ∧ ∀ (k : Nat) (h : k < (snapWords c).length) (h' : k < 130), (snapWords c)[k] = L[k] := by
  obtain ⟨-, rfl, words⟩ := (restoreWords_eq_some _ _ _ _ _).1 h
  obtain rfl := coreOfWords_alg _ _ _ words
  exact ⟨rfl, rfl, holdsFrom_zero.1 ((coreOfWords_alg_eq_some_iff c L).1 words)⟩

/-- Settles O52: both ways, the buffer holds the words of the core. -/
theorem restoreWordsInvertsSnapWords : Obligations.RestoreWordsInvertsSnapWords := by
  refine ⟨restoreWords_writeWords_snapWords, fun alg tag len L c h => ?_⟩
  obtain ⟨-, rfl, words⟩ := restoreWords_inversion h
  exact ⟨snapWords_length c, words⟩

end Sys2Proof.Machine
end

/-! ## The buffer's access commands (46_snapshot.md rules R200 to R203) -/

section
namespace Sys2Proof.Machine

section
variable {s : State}

theorem exec_sbRd {b : Byte} (h : b.toNat < s.sbLen.val) :
    exec (.sbRd b) s = .next (s.ok (zext32 (s.sb[b.toNat]'(by omega))) 0) := by
  rw [exec, execSbRd, s.sbRead_of_lt _ h]

theorem exec_sbRd_beyond {b : Byte} (h : s.sbLen.val ≤ b.toNat) : exec (.sbRd b) s = .next (s.raise .sbRange) := by
  rw [exec, execSbRd, s.sbRead_of_le _ h]

/-- A push on a buffer that is not full, `len` being its new length (R202). -/
theorem exec_sbPush {len : Fin 131} (h : len.val = s.sbLen.val + 1) :
    exec .sbPush s = .next ((s.setBuffer s.sbTag len (s.sb.setIfInBounds s.sbLen.val s.argLow)).ok 0 0) := by
  have room : s.sbLen.val < 130 := by omega
  have written : s.sb.set s.sbLen.val s.argLow room = s.sb.setIfInBounds s.sbLen.val s.argLow :=
    Vector.ext fun k hk => by rw [Vector.getElem_set, Vector.getElem_setIfInBounds]
  rw [exec, execSbPush, dif_pos room, written, show len = ⟨s.sbLen.val + 1, by omega⟩ from Fin.ext h]

theorem exec_sbPush_full (h : s.sbLen.val = 130) : exec .sbPush s = .next (s.raise .sbRange) := by
  rw [exec, execSbPush, dif_neg (by omega)]

end

/-- The fields of the word `SB.INFO` returns, at their positions (R203). -/
theorem State.zext32_bufferInfo (s : State) :
    zext32 s.bufferInfo = (algCode s.sbTag).setWidth 64 ||| BitVec.ofNat 64 s.sbLen.val <<< 8 := by
  rw [← s.sbLenBits_setWidth, BitVec.or_comm]
  simp only [zext32, State.bufferInfo, BitVec.setWidth_append_eq_shiftLeft_setWidth_or, BitVec.shiftLeft_or_distrib]
  simp only [← BitVec.shiftLeft_add, BitVec.setWidth_zero, BitVec.zero_shiftLeft, BitVec.zero_or, BitVec.or_zero, Nat.reduceAdd]

/-- Settles O50. -/
theorem bufferCommandsReadAndAppend : Obligations.BufferCommandsReadAndAppend := by
  refine fun s => ⟨fun b _ h => exec_sbRd h, fun b h => ?_, fun _ => rfl, fun h => ?_, fun h => ?_, ?_⟩
  · rw [exec_sbRd_beyond h, State.raise_eq]
  · refine ⟨⟨s.sbLen.val + 1, by omega⟩, _, rfl, exec_sbPush rfl, fun k hk => ?_⟩
    rw [State.setBuffer_sb, Vector.getElem_setIfInBounds, State.argLow, BitVec.setWidth_eq_extractLsb' (by decide)]
    exact if_congr eq_comm rfl rfl
  · rw [exec_sbPush_full h, State.raise_eq]
  · rw [exec, execSbInfo, s.zext32_bufferInfo]
    rfl

end Sys2Proof.Machine
end

/-! ## Taking the buffer over as the core (46_snapshot.md rules R198, R204) -/

section
namespace Sys2Proof.Machine

theorem exec_restore {alg : Alg} {s : State} {c : Core} (h : restoreWords alg s.sbTag s.sbLen s.sb = some c) :
    exec (.restore alg) s = .next ((s.setCore c).ok 0 0) := by
  rw [exec, execRestore, h]

theorem exec_restore_invalid {alg : Alg} {s : State} (h : restoreWords alg s.sbTag s.sbLen s.sb = none) :
    exec (.restore alg) s = .next (s.raise .invalidState) := by
  rw [exec, execRestore, h]

/-- The three tests of the shape, as what makes `RESTORE` an error when it fails (R198, R227). -/
theorem not_rightShape_iff (alg : Alg) (s : State) :
    ¬(s.sbTag = some alg ∧ s.sbLen = nwords alg ∧ (alg = .xs7 → s.sb[8].toNat ≤ 7) ∧
        (alg = .xs4096 → s.sb[128].toNat ≤ 127)) ↔ errorCondition (.restore alg) s .invalidState := by
  simp only [errorCondition, true_and, not_and_or, Classical.not_imp, Nat.not_le, ne_eq]

/-- Settles O51: the tests decide whether the words stand for a core, and that core has the words. -/
theorem restoreTakesTheRightShapeOnly : Obligations.RestoreTakesTheRightShapeOnly := by
  refine fun alg s => ⟨fun shape => ?_, fun wrong => ?_⟩
  · cases restored : restoreWords alg s.sbTag s.sbLen s.sb with
    | none => exact absurd shape ((not_rightShape_iff alg s).2 ((restoreWords_eq_none alg s).1 restored))
    | some c =>
      obtain ⟨tag, -, words⟩ := restoreWords_inversion restored
      exact ⟨c, exec_restore restored, tag, words⟩
  · rw [exec_restore_invalid ((restoreWords_eq_none alg s).2 ((not_rightShape_iff alg s).1 wrong)), State.raise_eq]

end Sys2Proof.Machine
end

/-! ## Draws between a snapshot and its restoration (45_draw_facade.md rule R183, 46_snapshot.md rule R205)

A draw is decided by the core and the configuration, and leaves the buffer. So `RESTORE` finds the buffer of the `SNAP`, and
its state draws like the one after the `SNAP`. -/

section
namespace Sys2Proof.Machine

theorem isDraw_cases {i : Instr} (h : isDraw i = true) : (i = .adv ∨ i = .draw ∨ i = .int32) ∨ i = .double := by
  cases i with
  | adv => exact .inl (.inl rfl)
  | draw => exact .inl (.inr (.inl rfl))
  | int32 => exact .inl (.inr (.inr rfl))
  | double => exact .inr rfl
  | _ => cases h

/-- Two states that agree in all that draws and their responses depend on. -/
structure State.DrawAlike (s t : State) : Prop where
  core : s.core = t.core
  cfg  : s.cfg = t.cfg
  hung : s.hung = t.hung
  rsp  : s.rsp = t.rsp

namespace State.DrawAlike

variable {s t : State} (h : s.DrawAlike t)
include h

theorem setArg (arg : Word64) : (s.setArg arg).DrawAlike (t.setArg arg) := { h with }
theorem setCore (c : Core) : (s.setCore c).DrawAlike (t.setCore c) := { h with core := rfl }
theorem ok (r f : Word64) : (s.ok r f).DrawAlike (t.ok r f) := { h with rsp := rfl }
theorem raise (e : ErrCode) : (s.raise e).DrawAlike (t.raise e) := { h with rsp := rfl }
theorem hang : s.hang.DrawAlike t.hang := { h with hung := rfl, rsp := rfl }

end State.DrawAlike

/-- Two runs of a command both have a next state, and these draw alike. -/
def ResultsDrawAlike (r r' : Result) : Prop := ∃ s t, r = .next s ∧ r' = .next t ∧ s.DrawAlike t

theorem ResultsDrawAlike.next {s t : State} (h : s.DrawAlike t) : ResultsDrawAlike (.next s) (.next t) := ⟨s, t, rfl, rfl, h⟩

section
variable {s t : State} (h : s.DrawAlike t)
include h

theorem exec_single_draw_drawAlike {i : Instr} (hi : i = .adv ∨ i = .draw ∨ i = .int32) :
    ResultsDrawAlike (exec i s) (exec i t) := by
  cases hc : t.core with
  | none =>
    rw [exec_single_draw_unseeded hi (h.core.trans hc), exec_single_draw_unseeded hi hc]
    exact .next (h.raise _)
  | some c =>
    obtain ⟨r, f, draws⟩ := exec_single_draw hi t.cfg c
    rw [draws s (h.core.trans hc) h.cfg, draws t hc rfl]
    exact .next ((h.setCore _).ok _ _)

theorem exec_double_w32_drawAlike {c : Core32} (hc : t.core = some (.w32 c)) :
    ResultsDrawAlike (exec .double s) (exec .double t) := by
  have hc' := h.core.trans hc
  cases search : retryLoop t.cfg c with
  | found c' n =>
    rw [exec_double_found hc' (h.cfg ▸ search), exec_double_found hc search]
    exact .next ((h.setCore _).ok _ _)
  | exhausted c' =>
    cases limit : t.cfg.retryLimit with
    | finite n positive =>
      rw [exec_double_gives_up hc' (h.cfg ▸ limit) (h.cfg ▸ search), exec_double_gives_up hc limit search]
      exact .next ((h.setCore _).raise _)
    | inf =>
      rw [exec_double_hangs hc' (h.cfg ▸ limit) (h.cfg ▸ search), exec_double_hangs hc limit search]
      exact .next h.hang

theorem exec_double_drawAlike : ResultsDrawAlike (exec .double s) (exec .double t) := by
  rcases hc : t.core with _ | c | c
  · rw [exec_double_unseeded (h.core.trans hc), exec_double_unseeded hc]
    exact .next (h.raise _)
  · exact exec_double_w32_drawAlike h hc
  · rw [exec_double_w64 (h.core.trans hc), exec_double_w64 hc, h.cfg]
    exact .next ((h.setCore _).ok _ _)

theorem takeCommand_drawAlike {i : Instr} (hi : isDraw i = true) (arg : Word64) :
    ResultsDrawAlike (takeCommand (encode i) arg s) (takeCommand (encode i) arg t) := by
  cases hung : t.hung with
  | true =>
    rw [takeCommand_hung _ _ _ (h.hung.trans hung), takeCommand_hung _ _ _ hung]
    exact .next h
  | false =>
    rw [takeCommand_running _ _ _ (h.hung.trans hung), takeCommand_running _ _ _ hung,
      execWord_of_command (decode_encode i), execWord_of_command (decode_encode i)]
    rcases isDraw_cases hi with single | rfl
    · exact exec_single_draw_drawAlike (h.setArg arg) single
    · exact exec_double_drawAlike (h.setArg arg)

end

/-- Draws from states that draw alike have the same responses. -/
theorem responsesOf_eq_of_drawAlike {later : List (Instr × Word64)} (draws : ∀ p ∈ later, isDraw p.1 = true) {s t : State}
    (h : s.DrawAlike t) : responsesOf later s = responsesOf later t := by
  induction later generalizing s t with
  | nil => rfl
  | cons p later ih =>
    obtain ⟨hp, rest⟩ := List.forall_mem_cons.1 draws
    obtain ⟨s', t', hs, ht, alike⟩ := takeCommand_drawAlike h hp p.2
    rw [responsesOf, responsesOf, hs, ht]
    exact congrArg₂ List.cons alike.rsp (ih rest alike)

/-- A draw leaves the configuration and the snapshot buffer (R183). -/
theorem exec_draw_keeps_buffer {i : Instr} (hi : isDraw i = true) {s t : State} (h : exec i s = .next t) :
    t.cfg = s.cfg ∧ t.sbTag = s.sbTag ∧ t.sbLen = s.sbLen ∧ t.sb = s.sb := by
  obtain ⟨⟨cfg, -, -⟩, -, -, -, -, -, buffer⟩ := registersAreWrittenOnlyByTheirCommands i s t h
  refine ⟨cfg, ?_⟩
  by_contra changed
  rcases buffer changed with rfl | rfl | rfl | ⟨alg, rfl⟩ <;> cases hi

theorem runCommands_draws_keep_buffer {draws : List (Instr × Word64)} (hd : ∀ p ∈ draws, isDraw p.1 = true) {s t : State}
    (h : runCommands draws s = .next t) : t.cfg = s.cfg ∧ t.sbTag = s.sbTag ∧ t.sbLen = s.sbLen ∧ t.sb = s.sb := by
  induction draws generalizing s with
  | nil =>
    cases h
    exact ⟨rfl, rfl, rfl, rfl⟩
  | cons p draws ih =>
    obtain ⟨hp, rest⟩ := List.forall_mem_cons.1 hd
    obtain ⟨u, hu, -⟩ := exec_ends p.1 (s.setArg p.2)
    rw [runCommands_cons hu] at h
    obtain ⟨cfg, tag, len, words⟩ := ih rest h
    obtain ⟨cfg', tag', len', words'⟩ := exec_draw_keeps_buffer hp hu
    exact ⟨cfg.trans cfg', tag.trans tag', len.trans len', words.trans words'⟩

/-- Settles O53: the draws leave the buffer of the `SNAP`, so the core of the `SNAP` is restored. -/
theorem restoreAfterSnapRepeatsTheDraws : Obligations.RestoreAfterSnapRepeatsTheDraws := by
  intro s t t' c draws hc running snap hd run running'
  rw [exec_snap hc] at snap
  cases snap
  obtain ⟨cfg, tag, len, words⟩ := runCommands_draws_keep_buffer hd run
  have restored : restoreWords c.alg t'.sbTag t'.sbLen t'.sb = some c := by
    rw [tag, len, words]
    exact restoreWords_writeWords_snapWords c s.sb
  exact ⟨_, exec_restore restored, rfl, running', fun later hl =>
    responsesOf_eq_of_drawAlike hl ⟨hc.symm, cfg, running'.trans running.symm, rfl⟩⟩

end Sys2Proof.Machine
end

/-! ## Loading a snapshot (46_snapshot.md rule R205, 70_reset_and_hazards.md rule R255)

`SB.CLR` and the pushes go from one to the next in states of one form: a block with an operand, a buffer and the response of
a success. -/

section
namespace Sys2Proof.Machine

/-- The block while a snapshot is loaded into its buffer, after a command with the operand `arg`. -/
def State.loading (s : State) (arg : Word64) (tag : Option Alg) (len : Fin 131) (sb : Vector Word32 130) : State :=
  ((s.setArg arg).setBuffer tag len sb).ok 0 0

theorem runCommands_append {l : List (Instr × Word64)} {s t : State} (h : runCommands l s = .next t)
    (l' : List (Instr × Word64)) : runCommands (l ++ l') s = runCommands l' t := by
  induction l generalizing s with
  | nil =>
    cases h
    rfl
  | cons p l ih =>
    obtain ⟨u, hu, -⟩ := exec_ends p.1 (s.setArg p.2)
    rw [runCommands_cons hu] at h
    rw [List.cons_append, runCommands_cons hu, ih h]

theorem State.argLow_setArg_zext (s : State) (w : Word32) : (s.setArg (w.setWidth 64)).argLow = w := by
  rw [State.argLow, State.setArg_arg, ← BitVec.setWidth_eq_extractLsb' (by decide), BitVec.setWidth_setWidth_of_le _ (by decide),
    BitVec.setWidth_eq]

section
variable (s : State) (tag : Option Alg)

theorem exec_sbPush_loading (arg : Word64) (w : Word32) {len len' : Fin 131} (h : len'.val = len.val + 1)
    (sb : Vector Word32 130) :
    exec .sbPush ((s.loading arg tag len sb).setArg (w.setWidth 64)) =
      .next (s.loading (w.setWidth 64) tag len' (sb.setIfInBounds len.val w)) := by
  rw [exec_sbPush (s := (s.loading arg tag len sb).setArg _) h, State.argLow_setArg_zext]
  rfl

/-- The pushes of a list of words write them behind the words that are there (R202). -/
theorem runCommands_pushes (ws : List Word32) (arg : Word64) {len len' : Fin 131} (h : len'.val = len.val + ws.length)
    (sb : Vector Word32 130) :
    ∃ arg', runCommands (ws.map fun w => (.sbPush, w.setWidth 64)) (s.loading arg tag len sb) =
      .next (s.loading arg' tag len' (writeWords sb len.val ws)) := by
  induction ws generalizing arg len sb with
  | nil =>
    obtain rfl : len' = len := Fin.ext h
    exact ⟨arg, rfl⟩
  | cons w ws ih =>
    rw [List.length_cons] at h
    obtain ⟨next, hn⟩ : ∃ next : Fin 131, next.val = len.val + 1 := ⟨⟨len.val + 1, by omega⟩, rfl⟩
    rw [List.map_cons, runCommands_cons (exec_sbPush_loading s tag arg w hn sb), writeWords, ← hn]
    exact ih _ (by omega) _

theorem exec_restore_loading (arg arg' : Word64) {alg : Alg} {len : Fin 131} {sb : Vector Word32 130} {c : Core}
    (h : restoreWords alg tag len sb = some c) :
    exec (.restore alg) ((s.loading arg' tag len sb).setArg arg) =
      .next ((((s.setArg arg).setBuffer tag len sb).setCore c).ok 0 0) :=
  exec_restore (s := (s.loading arg' tag len sb).setArg arg) h

end

/-- Settles O54: the pushes leave the words of the snapshot in the buffer that `SB.CLR` emptied and tagged. -/
theorem loadedSnapshotBecomesTheCore : Obligations.LoadedSnapshotBecomesTheCore := by
  intro c s
  have length : (nwords c.alg).val = (0 : Fin 131).val + (snapWords c).length := by
    rw [snapWords_length, Fin.val_zero, Nat.zero_add]
  obtain ⟨arg, pushes⟩ := runCommands_pushes s (some c.alg) (snapWords c) 0 length s.sb
  have loaded : runCommands ((.sbClr c.alg, 0) :: (snapWords c).map fun w => (.sbPush, w.setWidth 64)) s = _ :=
    (runCommands_cons rfl _).trans pushes
  have restored := exec_restore_loading s _ 0 arg (restoreWords_writeWords_snapWords c s.sb)
  exact ⟨_, (runCommands_append loaded _).trans (runCommands_cons restored []),
    rfl, rfl, rfl, rfl, rfl, rfl, rfl, rfl, rfl, rfl, rfl⟩

end Sys2Proof.Machine
end

/-! ## The cores that are all zero (46_snapshot.md rule R207, 60_exceptions.md rule R237) -/

section
namespace Sys2Proof.Machine

/-- Settles O43: such a core is one of those that are stuck at zero, and every pair it yields is rejected. -/
theorem zeroCoresOutputZeroForEverAndHangDouble : Obligations.ZeroCoresOutputZeroForEverAndHangDouble := by
  intro s c hc zero alg
  have stuck : stuckAtZero c = true := (stuckAtZero_iff c).2 ⟨zero, alg⟩
  exact ⟨outputAt_of_stuckAtZero stuck, fun limit =>
    (doubleHangsExactlyWhenEveryPairIsRejected s c hc limit).2 (pairAt_of_stuckAtZero stuck)⟩

end Sys2Proof.Machine
end

/-! ## `NOP` (47_control.md rule R215) -/

section
namespace Sys2Proof.Machine

/-- A word of format Z with a bit set in a field the format does not use is illegal (R77, R79). -/
theorem decode_plain_illegal {op : BitVec 8} {i : Instr} (ho : Opcode.ofByte op = some (.plain i)) {alg : BitVec 4}
    {imm8 : Byte} (unused : ¬(alg = 0 ∧ imm8 = 0)) : decode (commandWord op alg imm8) = .illegal .unusedField := by
  rw [decode_commandWord ho, Opcode.instr, if_neg unused]

theorem exec_nop (s : State) : exec .nop s = .next (s.ok 0 0) := rfl

/-- Settles O10: the illegal word has the opcode of `NOP` and a bit set in the immediate, which format Z does not use. -/
theorem nopOnlyResponds : Obligations.NopOnlyResponds := by
  refine ⟨?word, ⟨.unusedField, ?illegal⟩, exec_nop⟩
  case word => rfl
  case illegal =>
    have fields : (0x00000001 : Word32) = commandWord 0x00 0 1 := rfl
    rw [fields]
    exact decode_plain_illegal (i := .nop) rfl (by decide)

end Sys2Proof.Machine
end

/-! ## The ends of commands and their statuses (60_exceptions.md rules R225, R227, R229, R232, R237)

Each statement is read off the ends of a command: which response an end leaves and when a command has that end. -/

section
namespace Sys2Proof.Machine

variable {i : Instr} {s t : State}

theorem ends_of_exec (h : exec i s = .next t) : Ends i s t := by
  obtain ⟨u, hu, ends⟩ := exec_ends i s
  rw [h] at hu
  cases hu
  exact ends

/-- All that a command word can end as: the error of a word that is no command, or an end of its command (R77, R231). -/
theorem execWord_cases {cmd : Word32} (h : execWord cmd s = .next t) :
    (∃ why, decode cmd = .illegal why ∧ t = s.raise .illegal) ∨ ∃ i, decode cmd = .command i ∧ Ends i s t := by
  cases hd : decode cmd with
  | illegal why =>
    rw [execWord_of_illegal hd] at h
    cases h
    exact .inl ⟨why, rfl, rfl⟩
  | command i =>
    rw [execWord_of_command hd] at h
    exact .inr ⟨i, rfl, ends_of_exec h⟩

/-! ### A response, but in the hang (R225, R237) -/

theorem Ends.responds_or_hangs (h : Ends i s t) :
    t.rsp ≠ none ∨ (i = .double ∧ s.cfg.retryLimit = .inf ∧ t = { s with hung := true, rsp := none }) := by
  cases h with
  | error => exact .inl nofun
  | ok => exact .inl nofun
  | reject => exact .inl nofun
  | retry => exact .inl nofun
  | hang _ cmd _ limit => exact .inr ⟨cmd, limit, rfl⟩

theorem exists_step (s : State) : ∃ t, step s = .next t := by
  rcases step_cases s with ⟨-, idle⟩ | ⟨_, -, reset⟩ | ⟨_, _, _, -, -, dropped⟩ | ⟨_, _, _, _, -, -, -, illegal⟩ |
    ⟨_, arg, rest, i, -, -, -, run⟩
  · exact ⟨_, idle⟩
  · exact ⟨_, reset⟩
  · exact ⟨_, dropped⟩
  · exact ⟨_, illegal⟩
  · obtain ⟨t, next, -⟩ := exec_ends i ((s.setInbox rest).setArg arg)
    exact ⟨t, run.trans next⟩

/-- Settles O9: every command has one of its ends, and only the hang has no response. -/
theorem everyCommandRespondsOrHangs : Obligations.EveryCommandRespondsOrHangs := by
  refine ⟨fun i s => ?_, exists_step⟩
  obtain ⟨t, next, ends⟩ := exec_ends i s
  exact ⟨t, next, ends.responds_or_hangs⟩

/-! ### The table of conditions (R227) -/

/-- The tests of a command exclude each other. Only `DOUBLE` has two: without a core it is `E_UNSEEDED`, and `E_RETRY`
needs one. -/
theorem errorCondition_unique {e e' : ErrCode} (h : errorCondition i s e) (h' : errorCondition i s e') : e = e' := by
  cases i with
  | nop | clr | stat | rdid | fnvInit | smLd32 | smLd64 | sbClr | sbInfo | cmpTry => exact False.elim h
  | double =>
    rcases h with ⟨rfl, core⟩ | ⟨rfl, _, _, _, core, -⟩ <;> rcases h' with ⟨rfl, core'⟩ | ⟨rfl, _, _, _, core', -⟩
    · rfl
    · cases core.symm.trans core'
    · cases core.symm.trans core'
    · rfl
  | _ => exact h.1.trans h'.1.symm

/-- No command raises `E_ILLEGAL` (R227). -/
theorem not_errorCondition_illegal (i : Instr) (s : State) : ¬errorCondition i s .illegal := by
  cases i <;> simp [errorCondition]

/-- A `DOUBLE` on a 32-bit core without a limit ends with no error (R237). -/
theorem not_errorCondition_double_inf {c : Core32} (core : s.core = some (.w32 c)) (limit : s.cfg.retryLimit = .inf)
    (e : ErrCode) : ¬errorCondition .double s e := by
  simp [errorCondition, core, limit]

/-! ### Which status a command ends with (R227, R229) -/

/-- A response that carries the error whose condition holds carries no other. -/
theorem error_iff_of_rsp {e : ErrCode} (rsp : t.rsp = some ⟨.error e, 0, 0⟩) (cond : errorCondition i s e) (e' : ErrCode) :
    (∃ r f, t.rsp = some ⟨.error e', r, f⟩) ↔ errorCondition i s e' := by
  constructor
  · rintro ⟨r, f, h⟩
    cases rsp.symm.trans h
    exact cond
  · intro cond'
    cases errorCondition_unique cond cond'
    exact ⟨0, 0, rsp⟩

theorem Ends.error_iff (h : Ends i s t) (e : ErrCode) :
    (∃ r f, t.rsp = some ⟨.error e, r, f⟩) ↔ errorCondition i s e := by
  cases h with
  | error _ _ cond => exact error_iff_of_rsp rfl cond e
  | ok _ _ _ cond => simp [cond e]
  | reject cmd => simp [cmd, errorCondition]
  | retry _ _ cond => exact error_iff_of_rsp rfl cond e
  | hang _ cmd core limit => simp [cmd, not_errorCondition_double_inf core limit]

theorem Ends.reject_iff (h : Ends i s t) :
    (∃ r f, t.rsp = some ⟨.reject, r, f⟩) ↔ i = .cmpTry ∧ compose53 s.argHigh s.argLow = 0 := by
  cases h with
  | error e _ cond =>
    have other : i ≠ .cmpTry := by rintro rfl; exact cond
    simp [other]
  | ok _ _ _ _ accepted => simpa using accepted
  | reject cmd zero => simp [cmd, zero]
  | retry _ cmd => simp [cmd]
  | hang _ cmd => simp [cmd]

/-- A command word ends with `E_ILLEGAL` exactly when it is no command (R77, R231). -/
theorem execWord_illegal_iff {cmd : Word32} (h : execWord cmd s = .next t) :
    (∃ r f, t.rsp = some ⟨.error .illegal, r, f⟩) ↔ legalWord cmd = false := by
  rw [← Bool.not_eq_true, legalWordsAreTheDecodedOnes cmd]
  rcases execWord_cases h with ⟨why, hd, rfl⟩ | ⟨i, hd, ends⟩
  · simp [hd]
  · simp [hd, ends.error_iff, not_errorCondition_illegal]

/-- Settles O45: the statuses of the ends of a command, and `E_ILLEGAL` for the words that have no command. -/
theorem errorStatusesAreThoseOfTheTable : Obligations.ErrorStatusesAreThoseOfTheTable :=
  ⟨fun _ _ _ h => ⟨(ends_of_exec h).error_iff, (ends_of_exec h).reject_iff⟩, fun _ _ _ => execWord_illegal_iff⟩

/-! ### The error entry (R230, R232) -/

theorem recordFirst_eq_ite (err : Option ErrCode) (e : ErrCode) :
    recordFirst err e = if err = none then some e else err := by
  cases err <;> rfl

/-- An end with an error status is the error entry, but for the core under `E_RETRY`. -/
theorem Ends.error_entry (h : Ends i s t) {e : ErrCode} {r f : Word64} (ht : t.rsp = some ⟨.error e, r, f⟩) :
    t = { s.raise e with core := if e = .retry then t.core else s.core } := by
  cases h with
  | error e' notRetry => cases ht; rw [if_neg notRetry]; rfl
  | ok => cases ht
  | reject => cases ht
  | retry c => cases ht; rfl
  | hang => cases ht

theorem execWord_error_entry {cmd : Word32} (h : execWord cmd s = .next t) {e : ErrCode} {r f : Word64}
    (ht : t.rsp = some ⟨.error e, r, f⟩) : t = { s.raise e with core := if e = .retry then t.core else s.core } := by
  rcases execWord_cases h with ⟨_, -, rfl⟩ | ⟨_, -, ends⟩
  · cases ht; rfl
  · exact ends.error_entry ht

/-- Settles O46: a word that is no command and a command end in one and the same error entry. -/
theorem errorEntryRecordsTheCodeAndNothingElse : Obligations.ErrorEntryRecordsTheCodeAndNothingElse := by
  intro cmd s t e r f h ht
  rw [← recordFirst_eq_ite]
  exact execWord_error_entry h ht

end Sys2Proof.Machine
end

/-! ## Steps at which no command runs (60_exceptions.md rules R237, R242, 70_reset_and_hazards.md rules R250, R251) -/

section
namespace Sys2Proof.Machine

/-- Settles O7: the port takes no input, or takes a command and drops it. -/
theorem idleAndHungStepsChangeNothing : Obligations.IdleAndHungStepsChangeNothing := by
  refine ⟨takeInput_idle, fun s c a rest hin hung => ?_⟩
  rw [step, takeInput_command s c a rest hin]
  exact takeCommand_hung c a (s.setInbox rest) hung

/-- Settles O8: the reset input is taken in every state, and the values it leaves make the STATUS word 0. -/
theorem resetInputResetsTheBlock : Obligations.ResetInputResetsTheBlock := fun s rest hin =>
  ⟨(s.setInbox rest).pulseReset, takeInput_reset s rest hin, rfl, rfl, rfl, rfl, rfl, rfl, rfl,
    State.statusWord_eq_zero rfl rfl rfl rfl rfl rfl rfl, rfl, rfl, rfl, rfl⟩

end Sys2Proof.Machine
end

/-! ## Several blocks on one platform (60_exceptions.md rule R243) -/

section
namespace Sys2Proof.Machine

/-- A transaction that ends in a next state is a step of the addressed block, put in its place. -/
theorem Platform.step_eq_next_iff (p q : Platform) (k : Fin p.blocks.length) :
    p.step k = .next q ↔ ∃ s, Machine.step p.blocks[k] = .next s ∧ q = ⟨p.blocks.set k.val s⟩ := by
  unfold Platform.step
  cases Machine.step p.blocks[k] <;> simp [eq_comm]

/-- Settles O59: one element of the list of blocks is replaced. -/
theorem platformCommandsTouchOneBlock : Obligations.PlatformCommandsTouchOneBlock := by
  intro p q k h
  obtain ⟨s, hs, rfl⟩ := (p.step_eq_next_iff q k).1 h
  exact ⟨List.length_set, fun j hj => List.getElem?_set_ne hj.symm, s, hs, List.getElem?_set_self k.isLt⟩

end Sys2Proof.Machine
end
